-- ==== Sys2Proof/Word.lean ====
section
/-! DEFINITION. The word types of the ZG316: what the manual adds, subtracts and compares modulo 2^32 (positions and times), and the
bytes of the two serial links. Everything else the manual counts (a heat account, a speed, a parameter) is a natural number, held in
its range by the rules that write it. -/

namespace Sys2Proof

/-- A belt position or a time counter value: 32 bits, unsigned and modular (chapter 0, section 3.1). -/
abbrev W32 := BitVec 32

/-- One byte of a link frame. -/
abbrev Byte := BitVec 8

end Sys2Proof
end

