-- ==== Sys2Proof/Syntax.lean ====
section
/-! DEFINITION. The commands of the ZG316: one constructor for each row of spec/opcode_table.json. A command is a thing that happens at
the part's terminals (an encoder edge, a byte at a receiver, a change of an input), a time that the part itself has reached (an expiry,
a completion), or the taking of the request at the head of a link's receive queue. Assumption log entry 1 says who issues which. -/

namespace Sys2Proof

/-- The three stations (chapter 0, section 1.2). -/
inductive Station where
  | m
  | e
  | a
  deriving DecidableEq, Repr

/-- The two serial links, which carry one frame format (R163). -/
inductive Link where
  | supervisor
  | classifier
  deriving DecidableEq, Repr

/-- The two OK inputs of station E, each with a watch of its own (R146). -/
inductive EcsInput where
  | drive
  | flap
  deriving DecidableEq, Repr

/-- What one coil gives at a scan: an amplitude 0..4095 and a phase 0..255 (R19). -/
structure Sample where
  amp   : BitVec 12
  phase : BitVec 8
  deriving DecidableEq, Repr

/-- The levels of the input terminals that the part reads as levels (section 10.8). TACH is read by its rising edges alone, the coil
channels by the samples of a scan, and the links by their bytes. -/
structure Inputs where
  encA    : Bool
  encB    : Bool
  magOk   : Bool
  driveOk : Bool
  flapOk  : Bool
  jetOk   : Bool
  estop   : Bool
  aux     : BitVec 8
  deriving DecidableEq, Repr

/-- The commands. Each names in its docstring the row of the table and the rule it stands under. -/
inductive Instr where
  /-- ENCODER_EDGE (R1): an edge on ENC_A or ENC_B; the levels of the two channels after it, and what the 32 coils read at that
  moment, should the edge start a scan. -/
  | encoderEdge (a b : Bool) (coils : Vector Sample 32)
  /-- STOP_TIMER_EXPIRY (R12). -/
  | stopTimerExpiry
  /-- SEGMENT_COMPLETION (R122): segment `k`. -/
  | segmentCompletion (k : Fin 8)
  /-- HEAT_STEP (R127). -/
  | heatStep
  /-- HOT_INPUT_CHANGE (R128): the levels of AUX0..AUX7 after the change. -/
  | hotInputChange (levels : BitVec 8)
  /-- HOT_DEBOUNCE_EXPIRY (R128). -/
  | hotDebounceExpiry
  /-- MAG_OK_CHANGE (R132): the level of MAG_OK after the change. -/
  | magOkChange (level : Bool)
  /-- MAG_OK_WATCH_EXPIRY (R132). -/
  | magOkWatchExpiry
  /-- TACH_EDGE (R136): a rising edge of TACH. -/
  | tachEdge
  /-- TACH_TIMEOUT (R136). -/
  | tachTimeout
  /-- ECONOMY_TIMER_EXPIRY (R140). -/
  | economyTimerExpiry
  /-- SPIN_UP_WATCH_EXPIRY (R141). -/
  | spinUpWatchExpiry
  /-- STALL_WATCH_EXPIRY (R141). -/
  | stallWatchExpiry
  /-- FLAP_COMPLETION (R144): flap `k`. -/
  | flapCompletion (k : Fin 4)
  /-- ECS_OK_CHANGE (R146): the levels of DRIVE_OK and FLAP_OK after the change. -/
  | ecsOkChange (drive flap : Bool)
  /-- ECS_OK_WATCH_EXPIRY (R146): the watch of DRIVE_OK or of FLAP_OK. -/
  | ecsOkWatchExpiry (which : EcsInput)
  /-- PULSE_OPEN (R155): nozzle `n`. -/
  | pulseOpen (n : Fin 64)
  /-- PULSE_CLOSE (R156): nozzle `n`. -/
  | pulseClose (n : Fin 64)
  /-- JET_OK_CHANGE (R158): the level of JET_OK after the change. -/
  | jetOkChange (level : Bool)
  /-- JET_OK_WATCH_EXPIRY (R158). -/
  | jetOkWatchExpiry
  /-- CENSUS_WAIT_EXPIRY (R165): the wait of station `st`. -/
  | censusWaitExpiry (st : Station)
  /-- ESTOP_INPUT_CHANGE (R167): the level of ESTOP after the change. -/
  | estopInputChange (level : Bool)
  /-- ESTOP_ASSERTED (R167): the input has been asserted for 100 µs. -/
  | estopAsserted
  /-- ESTOP_RELEASED (R167): the input has been deasserted for 100 µs. -/
  | estopReleased
  /-- SWITCH_MARK_END (R169). -/
  | switchMarkEnd
  /-- HARD_RESET (R172): power-on, or RESET held low and released; the levels of the inputs at the release. -/
  | hardReset (levels : Inputs)
  /-- FRAME_RECEIVED (R65, R164): the byte that completes a well-formed frame, and whether its stop bit was there. -/
  | frameReceived (l : Link) (b : Byte) (stopBit : Bool)
  /-- FRAME_DROPPED (R163): the byte that drops a frame with cause LENGTH, CRC or FRAMING, and whether its stop bit was there. -/
  | frameDropped (l : Link) (b : Byte) (stopBit : Bool)
  /-- FRAME_GAP_TIMEOUT (R163). -/
  | frameGapTimeout (l : Link)
  /-- FRAME_SENT (R67): the last byte of the head frame of the transmit queue has been sent. -/
  | frameSent (l : Link)
  /-- VERDICT (R69): the classifier's request at the head of its receive queue is taken; so are the requests below. -/
  | verdict
  /-- VERDICT_AT (R72). -/
  | verdictAt
  /-- LOCATE (R73). -/
  | locate
  /-- PARAM_READ (R96): a supervisor request, as are all below. -/
  | paramRead
  /-- PARAM_WRITE (R97): of a number that no row below has for its own. -/
  | paramWrite
  /-- STOP_MS_WRITE (R13): PARAM_WRITE of 001h. -/
  | stopMsWrite
  /-- T64_RUN_WRITE (R13): PARAM_WRITE of 002h. -/
  | t64RunWrite
  /-- BACKLASH_MAX_WRITE (R4): PARAM_WRITE of 003h. -/
  | backlashMaxWrite
  /-- GEOMETRY_WRITE (R99): PARAM_WRITE of 010h..016h. -/
  | geometryWrite
  /-- HEAT_MAX_WRITE (R131): PARAM_WRITE of 024h. -/
  | heatMaxWrite
  /-- ROTOR_MAX_RPM_WRITE (R98): PARAM_WRITE of 031h. -/
  | rotorMaxRpmWrite
  /-- ROTOR_BAND_WRITE (R148): PARAM_WRITE of 035h. -/
  | rotorBandWrite
  /-- SLINK_RATE_WRITE (R100): PARAM_WRITE of 061h. -/
  | slinkRateWrite
  /-- CLINK_RATE_WRITE (R100): PARAM_WRITE of 060h. -/
  | clinkRateWrite
  /-- ALERT_MASK_WRITE (R168): PARAM_WRITE of 078h. -/
  | alertMaskWrite
  /-- AUX_FUNCTION_WRITE (R169): PARAM_WRITE of 070h..077h. -/
  | auxFunctionWrite
  /-- ROUTE_READ (R76). -/
  | routeRead
  /-- ROUTE_WRITE (R76). -/
  | routeWrite
  /-- RECIPE_COPY (R88). -/
  | recipeCopy
  /-- RECIPE_ARM (R89). -/
  | recipeArm
  /-- RECIPE_DISARM (R89). -/
  | recipeDisarm
  /-- RECIPE_FREE (R90). -/
  | recipeFree
  /-- RECIPE_SWITCH (R91). -/
  | recipeSwitch
  /-- RECIPE_STATUS (R94). -/
  | recipeStatus
  /-- RECORD_READ (R53). -/
  | recordRead
  /-- RECORD_FIND (R55). -/
  | recordFind
  /-- RECORD_OVERRIDE (R80). -/
  | recordOverride
  /-- RECORD_CANCEL (R58). -/
  | recordCancel
  /-- COLLECT (R52). -/
  | collect
  /-- TABLE_SUMMARY (R64). -/
  | tableSummary
  /-- TOTALS_READ (R63). -/
  | totalsRead
  /-- TOTALS_CLEAR (R63). -/
  | totalsClear
  /-- STATION_SET_OFFLINE (R166). -/
  | stationSetOffline
  /-- STATION_SET_ONLINE (R166). -/
  | stationSetOnline
  /-- STATION_STATUS (R166). -/
  | stationStatus
  /-- CENSUS (R166). -/
  | census
  /-- STATUS (R170). -/
  | status
  /-- ALERT_CLEAR (R168). -/
  | alertClear
  /-- PURGE (R59). -/
  | purge
  /-- RESTART (R171). -/
  | restart
  /-- RECEIVER_BYTE_TAKEN (R163): a byte that neither completes nor drops a frame, and whether its stop bit was there. -/
  | receiverByteTaken (l : Link) (b : Byte) (stopBit : Bool)
  /-- BAD_KIND_REQUEST (R66): the request at the head of link `l`, whose KIND is not served there, is taken. -/
  | badKindRequest (l : Link)
  deriving DecidableEq, Repr

end Sys2Proof
end

