-- ==== Sys2Proof/Config.lean ====
section
/-! DEFINITION. The free values of the model: constants without a body, so that nothing can be proved of them. The step applies them to
the plain counter `State.draws`, which it advances at each use. -/

namespace Sys2Proof

/-- The order in which events that fall together are taken, where the manual says that either order is possible (R8, R51, R82, R110,
R154): the `n`-th choice among several events is `Config.pick n`, taken modulo their number. Assumption log entry 3. -/
opaque Config.pick : Nat → Nat

/-- The measured rotor speed after two tach edges in one microsecond: R136 divides by a period of 0, and states no result. The value is
held at 65,535 by the step, as R136 holds every result. Assumption log entry 4. -/
opaque Config.tachSpeed : Nat → Nat

end Sys2Proof
end

