-- ==== Sys2Proof/Machine/Data.lean ====
section
/-! DEFINITION. The pieces of state, block by block, as section 2.3 of chapter 0 shares them out: each block's structure holds what the
state table at the head of its chapter lists. Distances, parameters, counts and accounts are natural numbers; positions, times and link
bytes are words. -/

namespace Sys2Proof.Machine

/-! ### Chapter 1: the position unit -/

/-- The belt state (R12). -/
inductive BeltState where
  | stopped
  | creeping
  | running
  deriving DecidableEq, Repr

/-- The state of POS (chapter 1). `stopTimer` is the pending expiry of R12, absent while the timer is not running. -/
structure Pos where
  accA            : Bool
  accB            : Bool
  lastEdge        : Option W32
  position        : W32
  backlash        : Nat
  time            : W32
  groupCount      : Nat
  completion      : W32
  completionsSeen : Nat
  t64             : Nat
  latestAdvance   : W32
  stopTimer       : Option W32
  belt            : BeltState
  deriving DecidableEq, Repr

/-! ### Chapter 2: the coil bar and the segmenter -/

/-- One coil (section 2.1): the baseline accumulator K, the activity, the stuck count and the fault state. -/
structure Coil where
  k       : Nat
  active  : Bool
  stuck   : Nat
  faulted : Bool
  deriving DecidableEq, Repr

/-- The state of SCAN: the 32 coils and the settling count. -/
structure Scan where
  coils    : Vector Coil 32
  settling : Nat
  deriving DecidableEq, Repr

/-- The phase classes of R22; a phase of none of them is UNCLASSED, an absent class. -/
inductive Metal where
  | ferrous
  | nonferrous
  | stainless
  deriving DecidableEq, Repr

/-- The classes seen: a subset of the three phase classes (R26). -/
structure Classes where
  ferrous    : Bool
  nonferrous : Bool
  stainless  : Bool
  deriving DecidableEq, Repr

/-- The signature of a closed record (R33). -/
inductive Signature where
  | ferrous
  | nonferrous
  | stainless
  | mixed
  | faint
  deriving DecidableEq, Repr

/-- A range of coils, first..last (chapter 0, section 3.3). -/
structure Span where
  first : Nat
  last  : Nat
  deriving DecidableEq, Repr

/-- The largest excess taken, with that sample's phase (R26); no sample yet is excess 0. -/
structure Peak where
  excess : Nat
  phase  : Nat
  deriving DecidableEq, Repr

/-- A tracker is bound to a record's tag, or a shadow that counts UNTRACKED at its close or does not (section 2.6). -/
inductive TrackerKind where
  | bound (tag : Nat)
  | shadow (counts : Bool)
  deriving DecidableEq, Repr

/-- One open tracker (section 2.6). -/
structure Tracker where
  kind      : TrackerKind
  span      : Span
  f         : W32
  lastSeen  : W32
  gap       : Nat
  peak      : Peak
  classes   : Classes
  continued : Bool
  deriving DecidableEq, Repr

/-- The state of SEG: the open trackers, and the continuation notes kept for the next scan (R37). -/
structure Seg where
  trackers : List Tracker
  notes    : List Span
  deriving DecidableEq, Repr

/-! ### Chapter 4: route entries and verdicts -/

/-- The target bins (section 4.4). -/
inductive Bin where
  | ferrous
  | nonferrous
  | eject
  | residue
  deriving DecidableEq, Repr

/-- The M actions (section 4.4). -/
inductive MAction where
  | none
  | lift
  | holdOff
  deriving DecidableEq, Repr

/-- The E actions (section 4.4). -/
inductive EAction where
  | none
  | near
  | far
  | spin
  deriving DecidableEq, Repr

/-- The A actions (section 4.4). -/
inductive AAction where
  | none
  | eject
  | guard
  deriving DecidableEq, Repr

/-- A route entry: the five parts of section 4.4. -/
structure RouteEntry where
  target   : Bin
  m        : MAction
  e        : EAction
  a        : AAction
  priority : Nat
  deriving DecidableEq, Repr

/-- Who gave a record's verdict its last word (R71, R77). -/
inductive Source where
  | classifier
  | supervisor
  deriving DecidableEq, Repr

/-- A stored verdict (R71): code 0..13, confidence 0..100, source, amendment count 0..255. -/
structure Verdict where
  code   : Nat
  conf   : Nat
  source : Source
  amend  : Nat
  deriving DecidableEq, Repr

/-- The route column of R78: 0..15, or the overlength entry. -/
inductive Column where
  | col (n : Fin 16)
  | overlength
  deriving DecidableEq, Repr

/-! ### Chapter 3: the fragment table -/

/-- The record states (section 3.4). -/
inductive RecState where
  | opened
  | pending
  | routed
  | airborne
  | settled
  deriving DecidableEq, Repr

/-- The reasons that accompany DENIED, SKIPPED and CUT (section 3.2). -/
inductive Reason where
  | conflict
  | capacity
  | late
  | thermal
  | rotor
  | slow
  | jetFull
  | offline
  | fault
  | estop
  deriving DecidableEq, Repr

/-- The outcome of one action (section 6.4). -/
inductive Result where
  | none
  | placed
  | acting
  | done
  | denied (r : Reason)
  | skipped (r : Reason)
  | cut (r : Reason)
  | breached
  deriving DecidableEq, Repr

/-- One thing for each station. -/
structure ByStation (α : Type) where
  m : α
  e : α
  a : α
  deriving DecidableEq, Repr

/-- What a record takes at its close (R45). -/
structure Closing where
  t         : W32
  length    : Nat
  signature : Signature
  deriving DecidableEq, Repr

/-- The departure field (R47). -/
structure Departure where
  tDep   : W32
  t64Dep : Nat
  deriving DecidableEq, Repr

/-- The disposition of a settled record (R50). -/
inductive Disposition where
  | bin (b : Bin)
  | diverted (st : Station)
  deriving DecidableEq, Repr

/-- The flags of a record (section 3.2). -/
structure RecFlags where
  overlength  : Bool
  continued   : Bool
  lateVerdict : Bool
  overridden  : Bool
  deriving DecidableEq, Repr

/-- A live record: the fields of the table of section 3.2; an absent field is `none`. `tailGone` is no field of that table and is not read
out: it says that POS has delivered the record's tail departure (R48), which the settle test asks for (R49). -/
structure Record where
  tag         : Nat
  slot        : Fin 3
  state       : RecState
  flags       : RecFlags
  span        : Span
  f           : W32
  closing     : Option Closing
  peak        : Peak
  classes     : Classes
  verdict     : Option Verdict
  forced      : Option RouteEntry
  route       : Option RouteEntry
  column      : Option Column
  outcome     : ByStation Result
  departure   : Option Departure
  disposition : Option Disposition
  tailGone    : Bool
  deriving DecidableEq, Repr

/-- The seven totals (R62). -/
structure Totals where
  ferrous    : Nat
  nonferrous : Nat
  eject      : Nat
  residue    : Nat
  diverted   : Nat
  cancelled  : Nat
  untracked  : Nat
  deriving DecidableEq, Repr

/-- The state of FTAB: the live records (a table slot is free or holds one of them; which of the 256 it is cannot be seen), the settled
queue, oldest first, the tag counter and the totals. The tag index is `State.find`. -/
structure Table where
  records    : List Record
  queue      : List Nat
  tagCounter : Nat
  totals     : Totals
  deriving DecidableEq, Repr

/-! ### Chapter 5: the recipe store -/

/-- The slot states (section 5.2). -/
inductive SlotState where
  | free
  | edit
  | armed
  | active
  | draining
  deriving DecidableEq, Repr

/-- The sixteen per-recipe parameters (section 5.7). -/
structure RecipeParams where
  tOn       : Nat
  tOff      : Nat
  tMix      : Nat
  gapScans  : Nat
  fLo       : Nat
  fHi       : Nat
  sLo       : Nat
  sHi       : Nat
  nLo       : Nat
  nHi       : Nat
  confMin   : Nat
  nozMargin : Nat
  padUs     : Nat
  runRpm    : Nat
  idleRpm   : Nat
  econEn    : Nat
  deriving DecidableEq, Repr

/-- The content of a recipe slot (R85): 5 rows of 16 route entries, the one overlength entry, and the per-recipe parameters. -/
structure Recipe where
  rows       : Vector (Vector RouteEntry 16) 5
  overlength : RouteEntry
  params     : RecipeParams
  deriving DecidableEq, Repr

/-- One recipe slot: its state, its reference count and its content. -/
structure Slot where
  state  : SlotState
  refs   : Nat
  recipe : Recipe
  deriving DecidableEq, Repr

/-- The line-wide parameters (section 5.7). The alert mask is a set of the ten alerts, as the layouts number them. -/
structure Line where
  encFilter    : Nat
  stopMs       : Nat
  t64Run       : Nat
  backlashMax  : Nat
  dDec         : Nat
  pMag         : Nat
  magLen       : Nat
  pHead        : Nat
  dAir         : Nat
  land         : Nat
  lMax         : Nat
  locateTol    : Nat
  magRiseMs    : Nat
  magFallMs    : Nat
  dutyNorm     : Nat
  dutyHot      : Nat
  heatMax      : Nat
  flapTravelMs : Nat
  rotorMaxRpm  : Nat
  tachPpr      : Nat
  spinupMs     : Nat
  econHoldMs   : Nat
  rotorBand    : Nat
  valveLat     : Nat
  pulseMin     : Nat
  pulseMax     : Nat
  jetGap       : Nat
  censusWaitMs : Nat
  clinkRate    : Nat
  slinkRate    : Nat
  sightEn      : Nat
  auxFn        : Vector Nat 8
  alertMask    : BitVec 10
  deriving DecidableEq, Repr

/-- The state of RCP: the three slots, the pending switch position Psw, and the line-wide parameters. -/
structure Rcp where
  slots : Vector Slot 3
  psw   : Option W32
  line  : Line
  deriving DecidableEq, Repr

/-! ### Chapter 6: the claim arbiter -/

/-- The kinds of claim (R102). -/
inductive ClaimKind where
  | lift
  | holdOff
  | near
  | far
  | eject
  | guard
  deriving DecidableEq, Repr

/-- A claim (R102). A list holds WAITING and BEGUN claims alone (R103): an ENDED claim leaves its list at the event that ends it, so the
third state of R102 is the claim's absence. -/
structure Claim where
  owner    : Nat
  kind     : ClaimKind
  priority : Nat
  start    : W32
  release  : Option W32
  stop     : W32
  begun    : Bool
  deriving DecidableEq, Repr

/-- The state of ARB: 76 claim lists. -/
structure Arb where
  segments : Vector (List Claim) 8
  flaps    : Vector (List Claim) 4
  nozzles  : Vector (List Claim) 64
  deriving DecidableEq, Repr

/-! ### Chapter 7: the magnet sequencer -/

/-- The power states of a segment (section 7.1). -/
inductive Power where
  | off
  | rising
  | on
  | falling
  deriving DecidableEq, Repr

/-- A hold-off watch (R125). -/
structure HoldWatch where
  owner    : Nat
  breached : Bool
  deriving DecidableEq, Repr

/-- One magnet segment (section 7.1). -/
structure Segment where
  power      : Power
  holding    : List Nat
  completion : Option W32
  heat       : Nat
  cooling    : Bool
  watches    : List HoldWatch
  deriving DecidableEq, Repr

/-- The state of MAG. `heatDue` says that the time counter has reached a multiple of 1,000 µs whose heat step (R127) has not been taken
yet: it is the watched time of the next step. -/
structure Mag where
  segments    : Vector Segment 8
  hotInput    : Bool
  hotState    : Bool
  hotDebounce : Option W32
  okWatch     : Option W32
  heatDue     : Bool
  deriving DecidableEq, Repr

/-! ### Chapter 8: the rotor and the flaps -/

/-- The demand kinds (section 8.1). -/
inductive DemandKind where
  | none
  | idle
  | run
  deriving DecidableEq, Repr

/-- The rotor states (R138). -/
inductive RotorState where
  | stopped
  | idle
  | rampingUp
  | run
  | rampingDown
  deriving DecidableEq, Repr

/-- The flap positions (section 8.3). -/
inductive FlapPos where
  | atNear
  | atFar
  | movingNear
  | movingFar
  deriving DecidableEq, Repr

/-- A landing watch (R143, R145); `near` is the claimed position. -/
structure LandingWatch where
  owner    : Nat
  near     : Bool
  armed    : Bool
  breached : Bool
  deriving DecidableEq, Repr

/-- One flap. -/
structure Flap where
  position   : FlapPos
  completion : Option W32
  watches    : List LandingWatch
  deriving DecidableEq, Repr

/-- The state of ECS. -/
structure Ecs where
  lastTach    : Option W32
  tachTimeout : Option W32
  speed       : Nat
  demandKind  : DemandKind
  demandValue : Nat
  rotor       : RotorState
  need        : List Nat
  economy     : Option W32
  spinUp      : Option W32
  stall       : Option W32
  driveWatch  : Option W32
  flapWatch   : Option W32
  flaps       : Vector Flap 4
  deriving DecidableEq, Repr

/-! ### Chapter 9: the jet timer -/

/-- A pulse (chapter 9): PENDING until its open time, OPEN from it. -/
structure Pulse where
  openAt  : W32
  closeAt : W32
  owners  : List Nat
  isOpen  : Bool
  deriving DecidableEq, Repr

/-- The state of JET: a pulse list per nozzle, ordered by open time, and the JET_OK watch. -/
structure Jet where
  pulses  : Vector (List Pulse) 64
  okWatch : Option W32
  deriving DecidableEq, Repr

/-! ### Chapter 10: the links and the line signals -/

/-- The states of a receiver (R163). -/
inductive RxPhase where
  | hunt
  | length
  | body
  | check
  deriving DecidableEq, Repr

/-- A receiver: its state, the LEN kept, the bytes of KIND and BODY kept (oldest first), the first CRC byte kept, and the time of the
latest byte of the frame, from which the 2 ms gap is measured. -/
structure Receiver where
  phase    : RxPhase
  len      : Nat
  got      : List Byte
  crcHigh  : Option Byte
  lastByte : W32
  deriving DecidableEq, Repr

/-- A frame as it stands in a queue: KIND and BODY. -/
structure Frame where
  kind : Byte
  body : List Byte
  deriving DecidableEq, Repr

/-- A frame waiting to be sent. `rateAfter` is the link rate that applies once this frame has been sent (R100: the reply to a write of
SLINK_RATE). -/
structure TxFrame where
  kind      : Byte
  body      : List Byte
  rateAfter : Option Nat
  deriving DecidableEq, Repr

/-- One link: its receiver, its two queues, oldest first, the rate code in force in each direction, and a rate code that waits for the
end of the frame at hand in that direction (R100). -/
structure LinkState where
  rx        : Receiver
  rxQueue   : List Frame
  txQueue   : List TxFrame
  rxRate    : Nat
  txRate    : Nat
  rxRateDue : Option Nat
  txRateDue : Option Nat
  deriving DecidableEq, Repr

/-- The station states (section 10.2). -/
inductive Avail where
  | absent
  | interrogating
  | ready
  | offline
  | faulted
  deriving DecidableEq, Repr

/-- What LSIG holds for a station: its state, its census wait and its acted flag. -/
structure StationInfo where
  avail : Avail
  wait  : Option W32
  acted : Bool
  deriving DecidableEq, Repr

/-- The causes of a LINK alert (section 10.7); no cause is an absent one. -/
inductive Cause where
  | length
  | crc
  | gap
  | framing
  | overrun
  deriving DecidableEq, Repr

/-- The link cause, with the link. -/
structure LinkCause where
  cause : Cause
  link  : Link
  deriving DecidableEq, Repr

/-- The state of LSIG, beside the supervisor link: the stations, the E-stop state and its filter's pending time (R167), the alert
latches as the layouts number them, the link cause, and the SWITCH_MARK time (R169). -/
structure Lsig where
  stations    : ByStation StationInfo
  estop       : Bool
  estopFilter : Option W32
  alerts      : BitVec 10
  linkCause   : Option LinkCause
  switchMark  : Option W32
  deriving DecidableEq, Repr

end Sys2Proof.Machine
end

