-- ==== Sys2Proof/Machine/Defaults.lean ====
section
/-! DEFINITION. The values that a hard reset gives each block, as the reset table of its chapter states them (R17, R25, R39, R61, R68,
R101, R118, R134, R149, R161, R164, R172), and the default recipe of R85. -/

namespace Sys2Proof.Machine

/-- The default route entry (R85): RESIDUE, no action, priority 0. -/
def RouteEntry.default : RouteEntry :=
  { target := .residue, m := .none, e := .none, a := .none, priority := 0 }

/-- The defaults of the per-recipe parameters (section 5.7). The two rotor speeds follow ROTOR_MAX_RPM (R85). -/
def RecipeParams.default (rotorMax : Nat) : RecipeParams :=
  { tOn := 200, tOff := 120, tMix := 150, gapScans := 3
    fLo := 20, fHi := 70, sLo := 71, sHi := 100, nLo := 150, nHi := 230
    confMin := 60, nozMargin := 1, padUs := 1000
    runRpm := min 3000 rotorMax, idleRpm := min 800 (min 3000 rotorMax), econEn := 1 }

/-- The default recipe (R85). -/
def Recipe.default (rotorMax : Nat) : Recipe :=
  { rows := Vector.replicate 5 (Vector.replicate 16 RouteEntry.default)
    overlength := RouteEntry.default
    params := RecipeParams.default rotorMax }

/-- The defaults of the line-wide parameters (section 5.7). -/
def Line.default : Line :=
  { encFilter := 2, stopMs := 250, t64Run := 64000, backlashMax := 1024
    dDec := 2400, pMag := 4000, magLen := 1200, pHead := 12000, dAir := 480, land := 400, lMax := 1600, locateTol := 16
    magRiseMs := 12, magFallMs := 20, dutyNorm := 60, dutyHot := 30, heatMax := 60000
    flapTravelMs := 150, rotorMaxRpm := 4000, tachPpr := 4, spinupMs := 6000, econHoldMs := 30000, rotorBand := 3
    valveLat := 2500, pulseMin := 1500, pulseMax := 40000, jetGap := 1000
    censusWaitMs := 500, clinkRate := 3, slinkRate := 2, sightEn := 1
    auxFn := (Vector.replicate 8 0).set 0 2
    alertMask := 0x3FF#10 }

/-- A slot that is FREE: it holds the default recipe (R85). -/
def Slot.freed (rotorMax : Nat) : Slot :=
  { state := .free, refs := 0, recipe := Recipe.default rotorMax }

/-- POS after a hard reset (R17); the accepted channel pair is taken from the terminals. -/
def Pos.reset (a b : Bool) : Pos :=
  { accA := a, accB := b, lastEdge := none, position := 0, backlash := 0, time := 0, groupCount := 0, completion := 0
    completionsSeen := 0, t64 := 1048575, latestAdvance := 0, stopTimer := none, belt := .stopped }

/-- A coil after a hard reset (R25). -/
def Coil.reset : Coil := { k := 0, active := false, stuck := 0, faulted := false }

/-- SCAN after a hard reset (R25). -/
def Scan.reset : Scan := { coils := Vector.replicate 32 Coil.reset, settling := 0 }

/-- SEG after a hard reset (R39). -/
def Seg.reset : Seg := { trackers := [], notes := [] }

/-- All totals 0 (R61, R63). -/
def Totals.zero : Totals :=
  { ferrous := 0, nonferrous := 0, eject := 0, residue := 0, diverted := 0, cancelled := 0, untracked := 0 }

/-- FTAB after a hard reset (R61). -/
def Table.reset : Table := { records := [], queue := [], tagCounter := 1, totals := Totals.zero }

/-- RCP after a hard reset (R101): slot 0 ACTIVE, slots 1 and 2 FREE, each with the default recipe. -/
def Rcp.reset : Rcp :=
  { slots := (Vector.replicate 3 (Slot.freed Line.default.rotorMaxRpm)).set 0
      { Slot.freed Line.default.rotorMaxRpm with state := .active }
    psw := none
    line := Line.default }

/-- ARB after a hard reset (R118): 76 empty lists. -/
def Arb.reset : Arb :=
  { segments := Vector.replicate 8 [], flaps := Vector.replicate 4 [], nozzles := Vector.replicate 64 [] }

/-- A segment after a hard reset (R134). -/
def Segment.reset : Segment :=
  { power := .off, holding := [], completion := none, heat := 0, cooling := false, watches := [] }

/-- MAG after a hard reset (R134). The default aux functions give no terminal the MAG_HOT function, so the hot input is deasserted. -/
def Mag.reset : Mag :=
  { segments := Vector.replicate 8 Segment.reset, hotInput := false, hotState := false, hotDebounce := none, okWatch := none
    heatDue := false }

/-- A flap after a hard reset (R149): MOVING_FAR, completion at the end of reset (time 0) plus FLAP_TRAVEL_MS. -/
def Flap.reset : Flap :=
  { position := .movingFar, completion := some (BitVec.ofNat 32 (Line.default.flapTravelMs * 1000)), watches := [] }

/-- ECS after a hard reset (R149). -/
def Ecs.reset : Ecs :=
  { lastTach := none, tachTimeout := none, speed := 0, demandKind := .none, demandValue := 0, rotor := .stopped, need := []
    economy := none, spinUp := none, stall := none, driveWatch := none, flapWatch := none
    flaps := Vector.replicate 4 Flap.reset }

/-- JET after a hard reset (R161). -/
def Jet.reset : Jet := { pulses := Vector.replicate 64 [], okWatch := none }

/-- A receiver in HUNT, with nothing kept (R163, R172). -/
def Receiver.hunting (lastByte : W32) : Receiver :=
  { phase := .hunt, len := 0, got := [], crcHigh := none, lastByte := lastByte }

/-- A link after a hard reset (R68, R164, R172): receiver in HUNT, queues empty, the default rate in force. -/
def LinkState.reset (rate : Nat) : LinkState :=
  { rx := Receiver.hunting 0, rxQueue := [], txQueue := [], rxRate := rate, txRate := rate, rxRateDue := none, txRateDue := none }

/-- A station whose census waits (R165): INTERROGATING until `wait`. -/
def StationInfo.interrogating (wait : W32) : StationInfo :=
  { avail := .interrogating, wait := some wait, acted := false }

/-- LSIG at the release of RESET, before the census of R172 is taken: the stations INTERROGATING with the default wait, the E-stop filter
running on the input if it stands asserted. -/
def Lsig.reset (estopInput : Bool) : Lsig :=
  let waiting := StationInfo.interrogating (BitVec.ofNat 32 (Line.default.censusWaitMs * 1000))
  { stations := { m := waiting, e := waiting, a := waiting }
    estop := false
    estopFilter := if estopInput then some 100 else none
    alerts := 0, linkCause := none, switchMark := none }

end Sys2Proof.Machine
end

