-- ==== Sys2Proof/Machine/State.lean ====
section
/-! DEFINITION. The state of the ZG316, its faults and refusals, and the state after reset. -/

namespace Sys2Proof.Machine

/-- Everything the manual gives the part, block by block, with the levels at its input terminals. Two fields are the model's own:
`draws`, the counter to which the free values of Config are applied (assumption log entry 3), and `pending`, the commands that wait, the
next one first. The outputs at the terminals are functions of this state (Machine/Outputs.lean). -/
structure State where
  inputs  : Inputs
  pos     : Pos
  scan    : Scan
  seg     : Seg
  tab     : Table
  rcp     : Rcp
  arb     : Arb
  mag     : Mag
  ecs     : Ecs
  jet     : Jet
  lsig    : Lsig
  slink   : LinkState
  clink   : LinkState
  draws   : Nat
  pending : List Instr
  deriving DecidableEq, Repr

/-- The reasons to stop with a fault: there is none. Every command of the part completes, so no step answers a fault. -/
inductive Fault where
  deriving DecidableEq, Repr

/-- The reasons to refuse a command. -/
inductive Refusal where
  /-- Raised by exec for a command that has no meaning in this model yet, and by nothing else. Safe: the model stops. -/
  | notModelled (mnemonic : String)
  deriving DecidableEq, Repr

/-- Every block at its hard-reset value (R17, R25, R39, R61, R68, R101, R118, R134, R149, R161, R172), the inputs at `levels`, the
stations INTERROGATING with the census of the release. It leaves the commands that wait and the model's counter as they are given. -/
def State.blank (levels : Inputs) (draws : Nat) (pending : List Instr) : State :=
  { inputs := levels
    pos := Pos.reset levels.encA levels.encB
    scan := Scan.reset
    seg := Seg.reset
    tab := Table.reset
    rcp := Rcp.reset
    arb := Arb.reset
    mag := Mag.reset
    ecs := Ecs.reset
    jet := Jet.reset
    lsig := Lsig.reset levels.estop
    slink := LinkState.reset Line.default.slinkRate
    clink := LinkState.reset Line.default.clinkRate
    draws := draws
    pending := pending }

/-- The levels of the inputs that the reset state is given: every input deasserted (assumption log entry 2). -/
def Inputs.low : Inputs :=
  { encA := false, encB := false, magOk := false, driveOk := false, flapOk := false, jetOk := false, estop := false, aux := 0 }

/-- The part right after reset, with every input deasserted and no command waiting. -/
def State.reset : State := State.blank Inputs.low 0 []

end Sys2Proof.Machine
end

