-- ==== Sys2Proof/Machine/Ops.lean ====
section
/-! DEFINITION. The named operations that every block uses: updating one block of the state, the test of reached positions and times,
the conversions between time and counts, the choice of an order that the manual leaves open, and access to a record by its tag. -/

namespace Sys2Proof.Machine

/-! ### Updating one block -/

def State.modInputs (f : Inputs → Inputs) (s : State) : State := { s with inputs := f s.inputs }
def State.modPos (f : Pos → Pos) (s : State) : State := { s with pos := f s.pos }
def State.modScan (f : Scan → Scan) (s : State) : State := { s with scan := f s.scan }
def State.modSeg (f : Seg → Seg) (s : State) : State := { s with seg := f s.seg }
def State.modTab (f : Table → Table) (s : State) : State := { s with tab := f s.tab }
def State.modRcp (f : Rcp → Rcp) (s : State) : State := { s with rcp := f s.rcp }
def State.modArb (f : Arb → Arb) (s : State) : State := { s with arb := f s.arb }
def State.modMag (f : Mag → Mag) (s : State) : State := { s with mag := f s.mag }
def State.modEcs (f : Ecs → Ecs) (s : State) : State := { s with ecs := f s.ecs }
def State.modJet (f : Jet → Jet) (s : State) : State := { s with jet := f s.jet }
def State.modLsig (f : Lsig → Lsig) (s : State) : State := { s with lsig := f s.lsig }
def State.modSlink (f : LinkState → LinkState) (s : State) : State := { s with slink := f s.slink }
def State.modClink (f : LinkState → LinkState) (s : State) : State := { s with clink := f s.clink }

/-- A change of the totals alone. -/
def State.modTotals (f : Totals → Totals) (s : State) : State := s.modTab fun t => { t with totals := f t.totals }

/-- A change of the line-wide parameters alone. -/
def State.modLine (f : Line → Line) (s : State) : State := s.modRcp fun r => { r with line := f r.line }

/-- The line-wide parameters. -/
abbrev State.line (s : State) : Line := s.rcp.line

/-- The present time and the present position. -/
abbrev State.now (s : State) : W32 := s.pos.time
abbrev State.here (s : State) : W32 := s.pos.position

/-! ### Reached positions and times -/

/-- Position or time `x` is reached when the counter stands at `now` (R7). -/
def reached (now x : W32) : Bool := decide ((now - x).toNat < 2 ^ 31)

/-- One point is earlier than another when it is reached first (R7). -/
def earlier (a b : W32) : Bool := a != b && reached b a

/-- A watched time is due once it is present and reached (R9). -/
def due (now : W32) (t : Option W32) : Bool :=
  match t with
  | some x => reached now x
  | none => false

/-- The time `us` microseconds after `now`. -/
def after (now : W32) (us : Nat) : W32 := now + BitVec.ofNat 32 us

/-- The scan position of the latest scan: every multiple of 4 that the counter reaches is scanned (R10), so it is the last one. -/
def lastScan (p : W32) : W32 := p - BitVec.ofNat 32 (p.toNat % 4)

/-! ### Conversions between time and counts -/

/-- R14: a time of `us` microseconds as a count distance, rounded up. -/
def countsOf (t64 us : Nat) : Nat := (us * 64 + t64 - 1) / t64

/-- R15: a count distance as a time in microseconds, rounded down. -/
def timeOf (t64 n : Nat) : Nat := n * t64 / 64

/-! ### An order that the manual leaves open -/

/-- One of the things of a list, and the rest of it: of one alone that one, of several the one that a free value picks. -/
def State.choose {α : Type} (s : State) (x : α) : List α → α × List α × State
  | [] => (x, [], s)
  | y :: ys =>
    let all := x :: y :: ys
    let k := Config.pick s.draws % all.length
    (all.getD k x, all.eraseIdx k, { s with draws := s.draws + 1 })

/-- The first `n` things of a list in an order that free values pick, and the rest behind them; of the state only the draws change. -/
def State.shuffle {α : Type} (n : Nat) (xs : List α) (s : State) : List α × State :=
  match n, xs, s with
  | 0, xs, s => (xs, s)
  | _ + 1, [], s => ([], s)
  | n + 1, x :: xs, s =>
    let c := s.choose x xs
    let r := c.2.2.shuffle n c.2.1
    (c.1 :: r.1, r.2)

/-- Apply `f` once for each thing of a list, in an order that free values pick. -/
def State.each {α : Type} (xs : List α) (f : α → State → State) (s : State) : State :=
  let r := s.shuffle xs.length xs
  r.1.foldl (fun s x => f x s) r.2

/-! ### One thing for each station -/

def ByStation.get {α : Type} (b : ByStation α) : Station → α
  | .m => b.m
  | .e => b.e
  | .a => b.a

def ByStation.set {α : Type} (b : ByStation α) (st : Station) (x : α) : ByStation α :=
  match st with
  | .m => { b with m := x }
  | .e => { b with e := x }
  | .a => { b with a := x }

/-- The state of a station. -/
def State.avail (s : State) (st : Station) : Avail := (s.lsig.stations.get st).avail

/-- A change of what LSIG holds for one station. -/
def State.modStation (st : Station) (f : StationInfo → StationInfo) (s : State) : State :=
  s.modLsig fun l => { l with stations := l.stations.set st (f (l.stations.get st)) }

/-- A station's OK input as its census takes it (R165). -/
def okInput (i : Inputs) : Station → Bool
  | .m => i.magOk
  | .e => i.driveOk && i.flapOk
  | .a => i.jetOk

/-! ### Records by tag -/

/-- The live record that carries a tag (R41, R53). -/
def State.find (s : State) (tag : Nat) : Option Record := s.tab.records.find? fun r => r.tag == tag

/-- A change of the record that carries a tag; a tag that is not live changes nothing (R56). -/
def State.modRecord (tag : Nat) (f : Record → Record) (s : State) : State :=
  s.modTab fun t => { t with records := t.records.map fun r => if r.tag == tag then f r else r }

/-- An outcome moves on only from an in-progress value (R111). -/
def Result.inProgress : Result → Bool
  | .none => true
  | .placed => true
  | .acting => true
  | _ => false

/-! ### The three kinds of action -/

/-- The kind of claim an action makes (R102): none for NONE, and none for SPIN, which holds no resource. -/
def RouteEntry.kind (e : RouteEntry) : Station → Option ClaimKind
  | .m =>
    match e.m with
    | .none => none
    | .lift => some .lift
    | .holdOff => some .holdOff
  | .e =>
    match e.e with
    | .none => none
    | .near => some .near
    | .far => some .far
    | .spin => none
  | .a =>
    match e.a with
    | .none => none
    | .eject => some .eject
    | .guard => some .guard

/-- An action whose kind is not NONE. -/
def RouteEntry.acts (e : RouteEntry) : Station → Bool
  | .m => e.m != .none
  | .e => e.e != .none
  | .a => e.a != .none

/-- The action of a record at a station is SPIN. -/
def RouteEntry.spins (e : RouteEntry) (st : Station) : Bool := st == .e && e.e == .spin

/-- The record's route has a given A action, and so on for the others. -/
def Record.mAction (r : Record) : MAction := (r.route.map (·.m)).getD .none
def Record.eAction (r : Record) : EAction := (r.route.map (·.e)).getD .none
def Record.aAction (r : Record) : AAction := (r.route.map (·.a)).getD .none

/-! ### The recipe slots -/

/-- The slot that is ACTIVE (R86: exactly one is). -/
def State.activeSlot (s : State) : Fin 3 :=
  if s.rcp.slots[0].state = .active then 0 else if s.rcp.slots[1].state = .active then 1 else
  if s.rcp.slots[2].state = .active then 2 else 0

/-- The slot that is in a given state, where there is one. -/
def State.slotIn (s : State) (st : SlotState) : Option (Fin 3) :=
  if s.rcp.slots[0].state = st then some 0 else if s.rcp.slots[1].state = st then some 1 else
  if s.rcp.slots[2].state = st then some 2 else none

/-- A change of one recipe slot. -/
def State.modSlot (k : Fin 3) (f : Slot → Slot) (s : State) : State :=
  s.modRcp fun r => { r with slots := r.slots.set k (f r.slots[k]) }

/-- The per-recipe parameters of the ACTIVE slot (R19, R95). -/
def State.activeParams (s : State) : RecipeParams := s.rcp.slots[s.activeSlot].recipe.params

/-- The per-recipe parameters of a record's own slot (R95). -/
def State.paramsOf (s : State) (r : Record) : RecipeParams := s.rcp.slots[r.slot].recipe.params

end Sys2Proof.Machine
end

