-- ==== Sys2Proof/Machine/Flags.lean ====
section
/-! DEFINITION. The flags of the part: the ten alert latches, the link cause, and the ALERT function (R168). -/

namespace Sys2Proof.Machine

/-- The ten alerts (R168). -/
inductive Alert where
  | tableFull
  | link
  | station
  | thermal
  | reverse
  | encoder
  | coil
  | rotor
  | estop
  | overrun
  deriving DecidableEq, Repr

/-- The bit of an alert in an alert set (section 10.7). -/
def Alert.bit : Alert → BitVec 10
  | .tableFull => 0x001#10
  | .link => 0x002#10
  | .station => 0x004#10
  | .thermal => 0x008#10
  | .reverse => 0x010#10
  | .encoder => 0x020#10
  | .coil => 0x040#10
  | .rotor => 0x080#10
  | .estop => 0x100#10
  | .overrun => 0x200#10

/-- Set a latch; one already set stays set (R168). -/
def State.latch (a : Alert) (s : State) : State := s.modLsig fun l => { l with alerts := l.alerts ||| a.bit }

/-- Latch LINK with its cause and link, replacing any cause recorded before (R168). -/
def State.latchLink (c : Cause) (l : Link) (s : State) : State :=
  (s.latch .link).modLsig fun g => { g with linkCause := some { cause := c, link := l } }

/-- A latch is set. -/
def State.latched (s : State) (a : Alert) : Bool := (s.lsig.alerts &&& a.bit) != 0

/-- Clear every latch of a set, and the link cause with LINK (R168). -/
def State.clearAlerts (set : BitVec 10) (s : State) : State :=
  s.modLsig fun l =>
    { l with
      alerts := l.alerts &&& ~~~set
      linkCause := if (set &&& Alert.link.bit) != 0 then none else l.linkCause }

/-- The ALERT function: a latch is set that is a member of ALERT_MASK (R168). -/
def State.alertOut (s : State) : Bool := (s.lsig.alerts &&& s.line.alertMask) != 0

end Sys2Proof.Machine
end

