-- ==== Sys2Proof/Machine/Operands.lean ====
section
/-! DEFINITION. The operand forms of the two links: the fields of a request's body, the little-endian fields of a reply, the codes of
section 10.7, the route entry's 16 bits, the record's 40 bytes, and the frame with its CRC (R163, R164). -/

namespace Sys2Proof.Machine

/-! ### Fields of a body -/

/-- The byte at an offset. -/
def byteAt (body : List Byte) (i : Nat) : Nat := (body.getD i 0).toNat

/-- The 16-bit field at an offset, little-endian (section 10.7). -/
def halfAt (body : List Byte) (i : Nat) : Nat := byteAt body i + 256 * byteAt body (i + 1)

/-- The 32-bit field at an offset, little-endian. -/
def wordAt (body : List Byte) (i : Nat) : Nat := halfAt body i + 65536 * halfAt body (i + 2)

/-- A number as `n` bytes, the least significant first. -/
def le : Nat → Nat → List Byte
  | 0, _ => []
  | n + 1, v => BitVec.ofNat 8 v :: le n (v / 256)

/-- A flag as one byte: 1 where it is set and 0 where it is clear, since section 10.7 gives the width alone (DESIGN CHOICE, assumption log
entry 14). -/
def flagByte (b : Bool) : Byte := if b then 1 else 0

/-! ### Codes -/

/-- The reply statuses (section 10.7). -/
inductive Status where
  | ok
  | clamped
  | badKind
  | badArg
  | badParam
  | readOnly
  | busy
  | conflict
  | inUse
  | inAction
  | noSuch
  | tooLate
  | badCode
  | badRoute
  | badLen
  deriving DecidableEq, Repr

def Status.code : Status → Byte
  | .ok => 0
  | .clamped => 1
  | .badKind => 2
  | .badArg => 3
  | .badParam => 4
  | .readOnly => 5
  | .busy => 6
  | .conflict => 7
  | .inUse => 8
  | .inAction => 9
  | .noSuch => 10
  | .tooLate => 11
  | .badCode => 12
  | .badRoute => 13
  | .badLen => 14

def RecState.code : RecState → Byte
  | .opened => 0
  | .pending => 1
  | .routed => 2
  | .airborne => 3
  | .settled => 4

/-- A one-byte record state field; with no record to report it holds 255 (R164). -/
def stateByte : Option RecState → Byte
  | some s => s.code
  | none => 255

def Signature.code : Signature → Byte
  | .ferrous => 0
  | .nonferrous => 1
  | .stainless => 2
  | .mixed => 3
  | .faint => 4

def Reason.code : Reason → Nat
  | .conflict => 1
  | .capacity => 2
  | .late => 3
  | .thermal => 4
  | .rotor => 5
  | .slow => 6
  | .jetFull => 7
  | .offline => 8
  | .fault => 9
  | .estop => 10

/-- An outcome: its code in the low 4 bits, its reason in the high 4. -/
def Result.code : Result → Byte
  | .none => 0
  | .placed => 1
  | .acting => 2
  | .done => 3
  | .denied r => BitVec.ofNat 8 (4 + 16 * r.code)
  | .skipped r => BitVec.ofNat 8 (5 + 16 * r.code)
  | .cut r => BitVec.ofNat 8 (6 + 16 * r.code)
  | .breached => 7

def stationCode : Station → Nat
  | .m => 0
  | .e => 1
  | .a => 2

/-- The station that a code names. -/
def stationOf : Nat → Option Station
  | 0 => some .m
  | 1 => some .e
  | 2 => some .a
  | _ => none

def Bin.code : Bin → Nat
  | .ferrous => 0
  | .nonferrous => 1
  | .eject => 2
  | .residue => 3

/-- A disposition: its code in bits 0 to 2, the failing station in bits 4 and 5. -/
def Disposition.code : Disposition → Byte
  | .bin b => BitVec.ofNat 8 b.code
  | .diverted st => BitVec.ofNat 8 (4 + 16 * stationCode st)

def Avail.code : Avail → Byte
  | .absent => 0
  | .interrogating => 1
  | .ready => 2
  | .offline => 3
  | .faulted => 4

def SlotState.code : SlotState → Byte
  | .free => 0
  | .edit => 1
  | .armed => 2
  | .active => 3
  | .draining => 4

def RotorState.code : RotorState → Byte
  | .stopped => 0
  | .idle => 1
  | .rampingUp => 2
  | .run => 3
  | .rampingDown => 4

def DemandKind.code : DemandKind → Byte
  | .none => 0
  | .idle => 1
  | .run => 2

def BeltState.code : BeltState → Byte
  | .stopped => 0
  | .creeping => 1
  | .running => 2

def Cause.code : Cause → Nat
  | .length => 1
  | .crc => 2
  | .gap => 3
  | .framing => 4
  | .overrun => 5

/-- The link cause: the cause in bits 0 to 2, the link in bit 7; no cause is 0. The bits between are 0 (DESIGN CHOICE, assumption log entry
14). -/
def causeByte : Option LinkCause → Byte
  | none => 0
  | some c => BitVec.ofNat 8 (c.cause.code + match c.link with | .supervisor => 0 | .classifier => 128)

/-- The classes seen as three bits: FERROUS, NONFERROUS, STAINLESS. -/
def Classes.code (c : Classes) : Nat :=
  (if c.ferrous then 1 else 0) + (if c.nonferrous then 2 else 0) + (if c.stainless then 4 else 0)

/-! ### Route entries -/

def MAction.code : MAction → Nat
  | .none => 0
  | .lift => 1
  | .holdOff => 2

def EAction.code : EAction → Nat
  | .none => 0
  | .near => 1
  | .far => 2
  | .spin => 3

def AAction.code : AAction → Nat
  | .none => 0
  | .eject => 1
  | .guard => 2

/-- A route entry as its 16 bits (section 10.7). -/
def RouteEntry.code (e : RouteEntry) : Nat :=
  e.target.code + 4 * e.m.code + 16 * e.e.code + 128 * e.a.code + 512 * e.priority

def binOf : Nat → Bin
  | 0 => .ferrous
  | 1 => .nonferrous
  | 2 => .eject
  | _ => .residue

def mOf : Nat → Option MAction
  | 0 => some .none
  | 1 => some .lift
  | 2 => some .holdOff
  | _ => none

def eOf : Nat → Option EAction
  | 0 => some .none
  | 1 => some .near
  | 2 => some .far
  | 3 => some .spin
  | _ => none

def aOf : Nat → Option AAction
  | 0 => some .none
  | 1 => some .eject
  | 2 => some .guard
  | _ => none

/-- The route entry that 16 bits spell, its priority 0..15 as given; none if a field holds a value that the layout does not give, or bits
13 to 15 are not zero (R75, R164, section 10.7). -/
def routeOf (v : Nat) : Option RouteEntry :=
  match mOf (v / 4 % 4), eOf (v / 16 % 8), aOf (v / 128 % 4) with
  | some m, some e, some a =>
    if v / 8192 = 0 then some { target := binOf (v % 4), m := m, e := e, a := a, priority := v / 512 % 16 } else none
  | _, _, _ => none

/-! ### The record's 40 bytes -/

def Column.code : Column → Nat
  | .col n => n.val
  | .overlength => 16

/-- A bit of a byte, as a number. -/
def bitIf (b : Bool) (n : Nat) : Nat := if b then 2 ^ n else 0

/-- Byte 3 of the read-out: the flags, and bit 4 for a verdict of source SUPERVISOR. -/
def Record.flagCode (r : Record) : Nat :=
  bitIf r.flags.overlength 0 + bitIf r.flags.continued 1 + bitIf r.flags.lateVerdict 2 + bitIf r.flags.overridden 3 +
    bitIf (r.verdict.any fun v => v.source == .supervisor) 4

/-- Byte 4 of the read-out: what is present. -/
def Record.presence (r : Record) : Nat :=
  bitIf r.closing.isSome 0 + bitIf r.verdict.isSome 1 + bitIf r.forced.isSome 2 + bitIf r.route.isSome 3 +
    bitIf r.departure.isSome 4 + bitIf r.disposition.isSome 5

/-- The record read-out of section 10.7; an absent field holds 0. A bit to which the layout gives no meaning is 0 (DESIGN CHOICE, assumption
log entry 14). -/
def Record.bytes (r : Record) : List Byte :=
  le 2 r.tag ++ le 1 (r.slot.val + 4 * r.state.code.toNat) ++ le 1 r.flagCode ++ le 1 r.presence ++
  le 1 r.span.first ++ le 1 r.span.last ++ le 4 r.f.toNat ++
  le 4 ((r.closing.map (·.t.toNat)).getD 0) ++ le 2 ((r.closing.map (·.length)).getD 0) ++
  le 2 r.peak.excess ++ le 1 r.peak.phase ++
  le 1 (r.classes.code + 16 * (r.closing.map (·.signature.code.toNat)).getD 0) ++
  le 1 ((r.verdict.map (·.code)).getD 0) ++ le 1 ((r.verdict.map (·.conf)).getD 0) ++ le 1 ((r.verdict.map (·.amend)).getD 0) ++
  le 2 ((r.forced.map (·.code)).getD 0) ++ le 2 ((r.route.map (·.code)).getD 0) ++ le 1 ((r.column.map (·.code)).getD 0) ++
  [r.outcome.m.code, r.outcome.e.code, r.outcome.a.code] ++
  le 4 ((r.departure.map (·.tDep.toNat)).getD 0) ++ le 3 ((r.departure.map (·.t64Dep)).getD 0) ++
  le 1 ((r.disposition.map (·.code.toNat)).getD 0)

/-- The reply field of 40 bytes: the record, or all 0 when none is returned. -/
def recordBytes : Option Record → List Byte
  | some r => r.bytes
  | none => List.replicate 40 0

/-! ### Frames -/

/-- One bit of the CRC of R163: polynomial 1021h, most significant bit first. -/
def crcBit (c : BitVec 16) : BitVec 16 := if c.msb then (c <<< 1) ^^^ 0x1021#16 else c <<< 1

/-- One byte of the CRC of R163. -/
def crcByte (c : BitVec 16) (b : Byte) : BitVec 16 :=
  crcBit (crcBit (crcBit (crcBit (crcBit (crcBit (crcBit (crcBit (c ^^^ (b.setWidth 16 <<< 8)))))))))

/-- The CRC over LEN, KIND and BODY, initial value FFFFh (R163). -/
def crc16 (bytes : List Byte) : BitVec 16 := bytes.foldl crcByte 0xFFFF#16

/-- A frame as its bytes on the wire (section 10.1): SYNC, LEN, KIND, BODY, and the CRC high byte first. -/
def frameBytes (kind : Byte) (body : List Byte) : List Byte :=
  let inner := BitVec.ofNat 8 (body.length + 1) :: kind :: body
  let crc := crc16 inner
  0xA5#8 :: inner ++ [BitVec.ofNat 8 (crc.toNat / 256), BitVec.ofNat 8 crc.toNat]

end Sys2Proof.Machine
end

