-- ==== Sys2Proof/Machine/Rotor.lean ====
section
/-! DEFINITION. The rotor of station E: its state against its demand, the demand itself, the need set and the economy timer, and the
watches over spin-up and stall (R137 to R141). -/

namespace Sys2Proof.Machine

/-- The rotor state that a measured speed reads against a demand (R138). A demand above 0 is of kind RUN or IDLE (R137). -/
def rotorReading (band : Nat) (kind : DemandKind) (demand speed : Nat) : RotorState :=
  if demand = 0 then
    if speed < 50 then .stopped else .rampingDown
  else if speed < demand * (100 - band) / 100 then .rampingUp
  else if (demand * (100 + band) + 99) / 100 < speed then .rampingDown
  else if kind = .run then .run
  else .idle

/-- The spin-up watch after the rotor state has gone from `was` to `now'` (R141): set at an entry to RAMPING_UP, withdrawn on leaving
it. -/
def spinUpAfter (now : W32) (spinupMs : Nat) (was now' : RotorState) (watch : Option W32) : Option W32 :=
  if now' = .rampingUp then
    if was = .rampingUp then watch else some (after now (2 * spinupMs * 1000))
  else none

/-- The stall watch under a demand and a measured speed (R141): it runs while the demand is above 0 and the speed reads 0, from the
moment both first held. -/
def stallAfter (now : W32) (demand speed : Nat) (watch : Option W32) : Option W32 :=
  if 0 < demand ∧ speed = 0 then
    match watch with
    | some t => some t
    | none => some (after now 2000000)
  else none

/-- Evaluate the rotor state, and with it the two watches (R138, R141). -/
def State.evalRotor (s : State) : State :=
  s.modEcs fun e =>
    let reading := rotorReading s.line.rotorBand e.demandKind e.demandValue e.speed
    { e with
      rotor := reading
      spinUp := spinUpAfter s.now s.line.spinupMs e.rotor reading e.spinUp
      stall := stallAfter s.now e.demandValue e.speed e.stall }

/-- The demand that the conditions of R137 ask for: the first row that applies. -/
def State.demandFor (s : State) : DemandKind × Nat :=
  if s.avail .e ≠ .ready ∨ s.lsig.estop then (.none, 0)
  else if s.ecs.need ≠ [] then (.run, s.activeParams.runRpm)
  else if s.activeParams.econEn = 0 then (.run, s.activeParams.runRpm)
  else if s.ecs.economy.isSome then (.run, s.activeParams.runRpm)
  else (.idle, s.activeParams.idleRpm)

/-- Evaluate the demand (R137), and after a change of it the rotor state (R138). -/
def State.evalDemand (s : State) : State :=
  let d := s.demandFor
  if d.1 = s.ecs.demandKind ∧ d.2 = s.ecs.demandValue then s
  else (s.modEcs fun e => { e with demandKind := d.1, demandValue := d.2 }).evalRotor

/-- The measured speed takes a new value; a change of it makes ECS evaluate the rotor state (R136). -/
def State.setSpeed (v : Nat) (s : State) : State :=
  if v = s.ecs.speed then s else (s.modEcs fun e => { e with speed := v }).evalRotor

/-- Start the economy timer, afresh if it runs (R140). -/
def State.startEconomy (s : State) : State :=
  s.modEcs fun e => { e with economy := some (after s.now (s.line.econHoldMs * 1000)) }

/-- A record has an early need or a routed one (R139). -/
def Record.needsRotor (r : Record) : Bool :=
  match r.state with
  | .pending =>
    match r.closing with
    | some c => c.signature == .nonferrous || c.signature == .stainless || c.signature == .mixed
    | none => false
  | .routed => r.eAction != .none && r.outcome.e.inProgress
  | .airborne => r.eAction != .none && r.outcome.e.inProgress
  | _ => false

/-- A tag joins the need set; the set becoming non-empty stops the economy timer and moves the demand (R137, R140). -/
def State.addNeed (tag : Nat) (s : State) : State :=
  if tag ∈ s.ecs.need then s
  else if s.ecs.need = [] then (s.modEcs fun e => { e with need := [tag], economy := none }).evalDemand
  else s.modEcs fun e => { e with need := e.need ++ [tag] }

/-- A tag leaves the need set; the set becoming empty starts the economy timer and moves the demand (R137, R140). -/
def State.dropNeed (tag : Nat) (s : State) : State :=
  if tag ∈ s.ecs.need then
    let rest := s.ecs.need.filter fun t => t != tag
    let s1 := s.modEcs fun e => { e with need := rest }
    if rest = [] then s1.startEconomy.evalDemand else s1
  else s

/-- ECS applies the tests of R139 to the record that carries a tag; a tag that is not live is in no need. -/
def State.refreshNeed (tag : Nat) (s : State) : State :=
  match s.find tag with
  | some r => if r.needsRotor then s.addNeed tag else s.dropNeed tag
  | none => s.dropNeed tag

/-! ### The tach input -/

/-- The measured speed that a period gives (R136). A period of 0 states no result: it is a free value (assumption log entry 4). -/
def State.speedFrom (s : State) (period : Nat) : Nat :=
  if period * s.line.tachPpr = 0 then min 65535 (Config.tachSpeed s.draws)
  else min 65535 (60000000 / (period * s.line.tachPpr))

/-- R136, a rising edge of TACH. -/
def State.tachEdge (s : State) : State :=
  let mark (s : State) := s.modEcs fun e => { e with lastTach := some s.now, tachTimeout := some (after s.now 1000000) }
  match s.ecs.lastTach with
  | none => mark s
  | some t =>
    let period := (s.now - t).toNat
    mark ({ s with draws := if period * s.line.tachPpr = 0 then s.draws + 1 else s.draws }.setSpeed (s.speedFrom period))

/-- TACH_EDGE (R136). -/
def execTachEdge (s : State) : Host.Outcome State Fault Refusal := .next s.tachEdge

/-- TACH_TIMEOUT (R136): taken when the timeout is reached. -/
def execTachTimeout (s : State) : Host.Outcome State Fault Refusal :=
  .next (if due s.now s.ecs.tachTimeout
    then (s.modEcs fun e => { e with lastTach := none, tachTimeout := none }).setSpeed 0
    else s)

/-- ECONOMY_TIMER_EXPIRY (R140): the timer stops running and ECS evaluates the demand. -/
def execEconomyTimerExpiry (s : State) : Host.Outcome State Fault Refusal :=
  .next (if due s.now s.ecs.economy then (s.modEcs fun e => { e with economy := none }).evalDemand else s)

/-- SPIN_UP_WATCH_EXPIRY (R141): ROTOR latches and nothing else changes. -/
def execSpinUpWatchExpiry (s : State) : Host.Outcome State Fault Refusal :=
  .next (if due s.now s.ecs.spinUp then (s.modEcs fun e => { e with spinUp := none }).latch .rotor else s)

end Sys2Proof.Machine
end

