-- ==== Sys2Proof/Machine/Table.lean ====
section
/-! DEFINITION. The fragment table: opening, tags, settling, disposition, the settled queue, lookups, retirement and totals (R41 to R64),
with the reference counts of the recipe slots that follow it (R86, R93). -/

namespace Sys2Proof.Machine

/-! ### Totals -/

/-- A total goes up by `n` and saturates at 32 bits (R62). -/
def countUp (n total : Nat) : Nat := min 4294967295 (total + n)

/-- The total that a disposition names (R50). -/
def Totals.settled (t : Totals) : Disposition → Totals
  | .bin .ferrous => { t with ferrous := countUp 1 t.ferrous }
  | .bin .nonferrous => { t with nonferrous := countUp 1 t.nonferrous }
  | .bin .eject => { t with eject := countUp 1 t.eject }
  | .bin .residue => { t with residue := countUp 1 t.residue }
  | .diverted _ => { t with diverted := countUp 1 t.diverted }

/-! ### Reference counts -/

/-- A slot loses one live record: a DRAINING slot whose count falls to 0 becomes FREE with the default recipe (R86, R93). -/
def Slot.lose (rotorMax : Nat) (k : Slot) : Slot :=
  if k.state = .draining ∧ k.refs ≤ 1 then Slot.freed rotorMax else { k with refs := k.refs - 1 }

/-- The retirement of a record, reported to RCP (R56, R86). -/
def State.slotLoses (k : Fin 3) (s : State) : State := s.modSlot k (Slot.lose s.line.rotorMaxRpm)

/-- The opening of a record, reported to RCP (R43, R86). -/
def State.slotGains (k : Fin 3) (s : State) : State := s.modSlot k fun c => { c with refs := c.refs + 1 }

/-! ### Claims and pulses outstanding -/

/-- The claim lists of a station's resources, in the order of their numbers. -/
def Arb.lists (a : Arb) : Station → List (List Claim)
  | .m => a.segments.toList
  | .e => a.flaps.toList
  | .a => a.nozzles.toList

/-- A record has a claim outstanding at a station (a list holds WAITING and BEGUN claims alone, R103). -/
def State.hasClaims (s : State) (tag : Nat) (st : Station) : Bool :=
  (s.arb.lists st).any fun l => l.any fun c => c.owner == tag

/-- A record has a claim BEGUN at a station. -/
def State.hasBegun (s : State) (tag : Nat) (st : Station) : Bool :=
  (s.arb.lists st).any fun l => l.any fun c => c.owner == tag && c.begun

/-- A pulse of the record is pending, in the sense of R151. -/
def State.hasPulse (s : State) (tag : Nat) : Bool := s.jet.pulses.toList.any fun l => l.any fun p => p.owners.contains tag

/-- A pulse of the record is open. -/
def State.hasOpenPulse (s : State) (tag : Nat) : Bool :=
  s.jet.pulses.toList.any fun l => l.any fun p => p.isOpen && p.owners.contains tag

/-! ### Settling -/

/-- The disposition of R50: the target bin if every action that is not NONE is DONE, else the first station in the order M, E, A whose
action failed. -/
def Record.dispose (r : Record) (e : RouteEntry) : Disposition :=
  if e.acts .m ∧ r.outcome.m ≠ .done then .diverted .m
  else if e.acts .e ∧ r.outcome.e ≠ .done then .diverted .e
  else if e.acts .a ∧ r.outcome.a ≠ .done then .diverted .a
  else .bin e.target

/-- Nothing of the record is outstanding: the first condition of R49. -/
def State.idleFor (s : State) (tag : Nat) : Bool :=
  !s.hasClaims tag .m && !s.hasClaims tag .e && !s.hasClaims tag .a && !s.hasPulse tag

/-- The magnet has lifted the record off the belt, or its tail departure has been reached: the second condition of R49. -/
def Record.offBelt (r : Record) : Bool := (r.mAction == .lift && r.outcome.m == .done) || r.tailGone

/-- The settle test of R49 for a record. -/
def State.settles (s : State) (r : Record) : Bool :=
  (r.state == .routed || r.state == .airborne) && s.idleFor r.tag && r.offBelt

/-- A record settles with a disposition (R50, R51). -/
def State.settleAs (tag : Nat) (d : Disposition) (s : State) : State :=
  ((s.modRecord tag fun r => { r with state := .settled, disposition := some d }).modTab fun t =>
    { t with queue := t.queue ++ [tag], totals := t.totals.settled d }).refreshNeed tag

/-- FTAB applies the settle test to the record that carries a tag (R48, R49, R50). -/
def State.trySettle (tag : Nat) (s : State) : State :=
  match s.find tag with
  | none => s
  | some r =>
    match r.route with
    | none => s
    | some e => if s.settles r then s.settleAs tag (r.dispose e) else s

/-- ARB writes an action's outcome into the record, unless the outcome there is final (R111); the need set follows the E outcome
(R139). -/
def State.setOutcome (tag : Nat) (st : Station) (o : Result) (s : State) : State :=
  match s.find tag with
  | none => s
  | some r =>
    if (r.outcome.get st).inProgress then
      (s.modRecord tag fun r => { r with outcome := r.outcome.set st o }).refreshNeed tag
    else s

/-! ### Retirement -/

/-- What every retirement does (R56), but for its total: slot, tag and place in the queue are given up, the recipe slot loses a record,
and ECS lets go of the tag. The record's points go with it, since they are read from it. -/
def State.retire (r : Record) (s : State) : State :=
  ((s.modTab fun t =>
    { t with
      records := t.records.filter fun x => x.tag != r.tag
      queue := t.queue.filter fun x => x != r.tag }).slotLoses r.slot).refreshNeed r.tag

/-- The record that carries a tag is retired silently (R57); a tag that is not live retires nothing. -/
def State.retireTag (tag : Nat) (s : State) : State :=
  match s.find tag with
  | some r => s.retire r
  | none => s

/-! ### Opening -/

/-- The tag after a tag: 65535 counts on to 1 (R44). -/
def nextTag (t : Nat) : Nat := if t ≥ 65535 then 1 else t + 1

/-- The first value from `t` on that no live record carries (R44), looked for among `fuel` values. -/
def freeTag (live : List Nat) : Nat → Nat → Nat
  | 0, t => t
  | fuel + 1, t => if t ∈ live then freeTag live fuel (nextTag t) else t

/-- The tags of the live records. -/
def Table.tags (t : Table) : List Nat := t.records.map (·.tag)

/-- The tag that the next record takes: one more value than there are live records is enough to try (R44). -/
def Table.newTag (t : Table) : Nat := freeTag t.tags (t.records.length + 1) t.tagCounter

/-- A record at its opening (R43). -/
def Record.fresh (tag : Nat) (slot : Fin 3) (t : Tracker) : Record :=
  { tag := tag, slot := slot, state := .opened
    flags := { overlength := false, continued := t.continued, lateVerdict := false, overridden := false }
    span := t.span, f := t.f, closing := none, peak := t.peak, classes := t.classes
    verdict := none, forced := none, route := none, column := none
    outcome := { m := .none, e := .none, a := .none }
    departure := none, disposition := none, tailGone := false }

/-- Evict the head of the settled queue if no table slot is free (R42, R57). -/
def State.evictIfFull (s : State) : State :=
  if s.tab.records.length < 256 then s
  else
    match s.tab.queue with
    | tag :: _ => s.retireTag tag
    | [] => s

/-- FTAB opens a record for a tracker that has taken its run's samples, and answers its tag; no tag if no table slot can be given (R42,
R43, R44). -/
def State.openRecord (t : Tracker) (s0 : State) : Option Nat × State :=
  let s := s0.evictIfFull
  if s.tab.records.length < 256 then
    let tag := s.tab.newTag
    (some tag,
      (s.modTab fun b => { b with records := b.records ++ [Record.fresh tag s.activeSlot t], tagCounter := nextTag tag }).slotGains
        s.activeSlot)
  else (none, s)

/-! ### Lookups -/

/-- The tail that the LOCATE rule takes for a record: that of an OPEN record is the scan position of the latest scan (R54). -/
def State.tailOf (s : State) (r : Record) : W32 :=
  match r.closing with
  | some c => c.t
  | none => lastScan s.here

/-- A live record is a candidate for the metal seen at position `p` on coil `c` (R54). -/
def State.candidate (s : State) (p : W32) (c : Nat) (r : Record) : Bool :=
  decide (r.span.first ≤ c ∧ c ≤ r.span.last) &&
    reached p (r.f - BitVec.ofNat 32 s.line.locateTol) && reached (s.tailOf r + BitVec.ofNat 32 s.line.locateTol) p

/-- Among two candidates, the LOCATE rule prefers the later front, and among equal fronts the lower first coil (R54). -/
def Record.preferred (a b : Record) : Bool := earlier b.f a.f || (a.f == b.f && decide (a.span.first < b.span.first))

/-- The best of a list of candidates. Where two have equal fronts and equal first coils, R54 gives no choice: the one opened earlier, which
stands first in the table's list, is found (DESIGN CHOICE, assumption log entry 14). -/
def bestOf : List Record → Option Record
  | [] => none
  | r :: rs =>
    match bestOf rs with
    | none => some r
    | some b => if b.preferred r then some b else some r

/-- The LOCATE rule (R54). -/
def State.locate (s : State) (p : W32) (c : Nat) : Option Record := bestOf (s.tab.records.filter (s.candidate p c))

end Sys2Proof.Machine
end

