-- ==== Sys2Proof/Machine/Claims.lean ====
section
/-! DEFINITION. The claim arbiter's lists: their order, the resource sets and intervals of an action, the conflict and capacity tests, and
placement with pre-emption (R102 to R110, R115). -/

namespace Sys2Proof.Machine

/-! ### The lists -/

/-- Rewrite every list of a station, each with its resource's number. -/
def Arb.map (a : Arb) (st : Station) (f : Nat → List Claim → List Claim) : Arb :=
  match st with
  | .m => { a with segments := a.segments.mapIdx f }
  | .e => { a with flaps := a.flaps.mapIdx f }
  | .a => { a with nozzles := a.nozzles.mapIdx f }

/-- Withdraw a record's action at a station: its claims leave every list, and their points with them (R102, R109, R115). -/
def State.withdraw (tag : Nat) (st : Station) (s : State) : State :=
  s.modArb fun a => a.map st fun _ l => l.filter fun c => c.owner != tag

/-- Withdraw every claim of a record (R117). -/
def State.withdrawAll (tag : Nat) (s : State) : State := ((s.withdraw tag .m).withdraw tag .e).withdraw tag .a

/-- The resources that a record's action at a station holds: those whose lists hold a claim of it. -/
def State.held (s : State) (tag : Nat) (st : Station) (k : Nat) : Bool :=
  ((s.arb.lists st).getD k []).any fun c => c.owner == tag

/-- A claim joins a list in its place: before the first claim of a later start, so that claims of equal start keep the order of their
placement (R103). -/
def joinList (c : Claim) : List Claim → List Claim
  | [] => [c]
  | x :: xs => if earlier c.start x.start then c :: x :: xs else x :: joinList c xs

/-! ### Conflicts -/

/-- The conflicting pairs of kinds (R104). -/
def ClaimKind.opposes : ClaimKind → ClaimKind → Bool
  | .lift, .holdOff => true
  | .holdOff, .lift => true
  | .near, .far => true
  | .far, .near => true
  | .eject, .guard => true
  | .guard, .eject => true
  | _, _ => false

/-- The intervals of two claims, both ends included, overlap (R104). -/
def Claim.overlaps (a b : Claim) : Bool := reached a.stop b.start && reached b.stop a.start

/-- Two claims of one list conflict (R104). -/
def Claim.conflicts (a b : Claim) : Bool := a.kind.opposes b.kind && a.overlaps b

/-! ### Resource sets and intervals -/

/-- The first and last resource of an action's set (R105). -/
def resources (st : Station) (span : Span) (margin : Nat) : Nat × Nat :=
  match st with
  | .m => (span.first / 4, span.last / 4)
  | .e => (span.first / 8, span.last / 8)
  | .a => (2 * span.first - margin, min 63 (2 * span.last + 1 + margin))

/-- The interval of an action: start, release, end (R106). -/
structure Interval where
  start   : W32
  release : Option W32
  stop    : W32
  deriving DecidableEq, Repr

/-- The interval that R106 gives a kind of claim, from the front F and the tail T, the line's parameters, the PAD_US of the record's slot
and the T64 of the placement. -/
def intervalOf (p : Line) (padUs t64 : Nat) (f t : W32) : ClaimKind → Interval
  | .lift =>
    let release := t + BitVec.ofNat 32 (p.pMag + p.magLen)
    { start := f + BitVec.ofNat 32 p.pMag - BitVec.ofNat 32 (countsOf t64 (p.magRiseMs * 1000))
      release := some release
      stop := release + BitVec.ofNat 32 (countsOf t64 (p.magFallMs * 1000)) }
  | .holdOff =>
    { start := f + BitVec.ofNat 32 p.pMag, release := none, stop := t + BitVec.ofNat 32 (p.pMag + p.magLen) }
  | .near => flapInterval
  | .far => flapInterval
  | .eject => nozzleInterval
  | .guard => nozzleInterval
where
  /-- NEAR and FAR. -/
  flapInterval : Interval :=
    { start := f + BitVec.ofNat 32 p.pHead - BitVec.ofNat 32 (countsOf t64 (p.flapTravelMs * 1000))
      release := none
      stop := t + BitVec.ofNat 32 (p.pHead + p.land) }
  /-- EJECT and GUARD. -/
  nozzleInterval : Interval :=
    { start := f + BitVec.ofNat 32 (p.pHead + p.dAir) - BitVec.ofNat 32 (countsOf t64 p.valveLat)
      release := none
      stop := t + BitVec.ofNat 32 (p.pHead + p.dAir + countsOf t64 padUs) }

/-- The claim that every resource of an action's set would take (R102). -/
def State.claimFor (s : State) (r : Record) (c : Closing) (e : RouteEntry) (k : ClaimKind) : Claim :=
  let i := intervalOf s.line (s.paramsOf r).padUs s.pos.t64 r.f c.t k
  { owner := r.tag, kind := k, priority := e.priority, start := i.start, release := i.release, stop := i.stop, begun := false }

/-! ### The tests of R108 -/

/-- The lists of a station's resources from `lo` to `hi`. -/
def Arb.range (a : Arb) (st : Station) (lo hi : Nat) : List (List Claim) := ((a.lists st).take (hi + 1)).drop lo

/-- The claims on the resources `lo..hi` that conflict with a newcomer (R108). -/
def Arb.gather (a : Arb) (st : Station) (lo hi : Nat) (c : Claim) : List Claim :=
  (a.range st lo hi).flatMap fun l => l.filter c.conflicts

/-- A gathered claim stands firm against a newcomer: it is BEGUN, or an EJECT whose owner has a pulse, or of no lower priority (R108). -/
def State.standsFirm (s : State) (newcomer c : Claim) : Bool :=
  c.begun || decide (newcomer.priority ≤ c.priority) || (c.kind == .eject && s.hasPulse c.owner)

/-- The capacity test of R108 fails: a list of the set, less the claims of the actions to be pre-empted, has no room for the newcomer. -/
def Arb.tooFull (a : Arb) (st : Station) (lo hi : Nat) (victims : List Nat) : Bool :=
  (a.range st lo hi).any fun l => decide (12 < (l.filter fun c => !victims.contains c.owner).length + 1)

/-! ### Placement -/

/-- Write an outcome and report it to FTAB. -/
def State.conclude (tag : Nat) (st : Station) (o : Result) (s : State) : State := (s.setOutcome tag st o).trySettle tag

/-- A station refuses a record's action: the claims are withdrawn, the outcome is written and reported (R115). -/
def State.refuse (tag : Nat) (st : Station) (o : Result) (s : State) : State := (s.withdraw tag st).conclude tag st o

/-- Add the newcomer's claim to every list of its set (R109). -/
def State.addClaims (st : Station) (lo hi : Nat) (c : Claim) (s : State) : State :=
  s.modArb fun a => a.map st fun k l => if lo ≤ k ∧ k ≤ hi then joinList c l else l

/-- Place an action that makes claims, on a station that is READY (R107 from its third test on, R108, R109). -/
def State.placeClaims (r : Record) (st : Station) (newcomer : Claim) (s : State) : State :=
  let set := resources st r.span (s.paramsOf r).nozMargin
  if reached s.here newcomer.start then s.conclude r.tag st (.denied .late)
  else
    let gathered := s.arb.gather st set.1 set.2 newcomer
    if gathered.any (s.standsFirm newcomer) then s.conclude r.tag st (.denied .conflict)
    else
      let victims := (gathered.map (·.owner)).dedup
      if s.arb.tooFull st set.1 set.2 victims then s.conclude r.tag st (.denied .capacity)
      else
        ((s.each victims fun v => State.refuse v st (.denied .conflict)).addClaims st set.1 set.2 newcomer).conclude r.tag st .placed

/-- ARB places one action of a record's route (R107). -/
def State.placeAction (tag : Nat) (st : Station) (s : State) : State :=
  match s.find tag with
  | none => s
  | some r =>
    match r.route, r.closing with
    | some e, some c =>
      if !e.acts st then s
      else if s.avail st ≠ .ready then s.conclude tag st (.skipped .offline)
      else
        match e.kind st with
        | none => s.conclude tag st .placed
        | some k => s.placeClaims r st (s.claimFor r c e k)
    | _, _ => s

/-- ARB places the M, E and A actions of a record, in that order, each on its own (section 6.3). -/
def State.placeRoute (tag : Nat) (s : State) : State := ((s.placeAction tag .m).placeAction tag .e).placeAction tag .a

end Sys2Proof.Machine
end

