-- ==== Sys2Proof/Machine/Magnet.lean ====
section
/-! DEFINITION. The magnet sequencer: segments, lifts, hold-off watches, the heat account and its limit, the hot input, and MAG_OK (R120
to R134). -/

namespace Sys2Proof.Machine

/-! ### Segments -/

/-- Rewrite every segment, each with its number. -/
def State.modSegments (f : Nat → Segment → Segment) (s : State) : State :=
  s.modMag fun m => { m with segments := m.segments.mapIdx f }

/-- The drive is on: the segment is RISING or ON (R120). -/
def Segment.driven (g : Segment) : Bool := g.power == .rising || g.power == .on

/-- The power state changes: a change to RISING, ON or FALLING sets the mark of every open hold-off watch (R125). -/
def Segment.setPower (p : Power) (completion : Option W32) (g : Segment) : Segment :=
  { g with
    power := p
    completion := completion
    watches := if p = .off then g.watches else g.watches.map fun w => { w with breached := true } }

/-- The drive ends: the segment falls for MAG_FALL_MS from now (R123). -/
def Segment.fall (now : W32) (fallMs : Nat) (g : Segment) : Segment := g.setPower .falling (some (after now (fallMs * 1000)))

/-- A segment with an empty holding set that is RISING or ON goes to FALLING (R120, R123, R124). -/
def Segment.fallIfFree (now : W32) (fallMs : Nat) (g : Segment) : Segment :=
  if g.holding = [] ∧ g.driven then g.fall now fallMs else g

/-- A tag leaves a segment's holding set, at a release or a cut (R123, R124). -/
def Segment.letGo (now : W32) (fallMs tag : Nat) (g : Segment) : Segment :=
  { g with holding := g.holding.filter fun t => t != tag }.fallIfFree now fallMs

/-- A LIFT begins on a segment (R121): OFF and FALLING rise for the full rise time, RISING and ON go on as they are. -/
def Segment.lift (now : W32) (riseMs tag : Nat) (g : Segment) : Segment :=
  let g1 := { g with holding := g.holding ++ [tag] }
  if g1.driven then g1 else g1.setPower .rising (some (after now (riseMs * 1000)))

/-- A HOLD_OFF begins on a segment: a watch opens, breached at once if the segment is not OFF (R125). -/
def Segment.watch (tag : Nat) (g : Segment) : Segment :=
  { g with watches := g.watches ++ [{ owner := tag, breached := g.power != .off }] }

/-- The end of a rise or a fall (R122). -/
def Segment.complete (g : Segment) : Segment :=
  match g.power with
  | .rising => g.setPower .on none
  | .falling => g.setPower .off none
  | _ => { g with completion := none }

/-- The segments of a record's M action let go of its tag (R123, R124). -/
def State.letGo (tag : Nat) (s : State) : State :=
  s.modSegments fun k g => if s.held tag .m k then g.letGo s.now s.line.magFallMs tag else g

/-- A segment of the record's M action is COOLING: the thermal test of R121 fails. -/
def State.tooHot (s : State) (tag : Nat) : Bool :=
  (s.mag.segments.toList.zipIdx).any fun x => x.1.cooling && s.held tag .m x.2

/-- MAG takes the begin of a LIFT (R121): DENIED(THERMAL) for the whole action, or every segment of the set is held. -/
def State.liftBegins (tag : Nat) (s : State) : State :=
  if s.tooHot tag then s.refuse tag .m (.denied .thermal)
  else s.modSegments fun k g => if s.held tag .m k then g.lift s.now s.line.magRiseMs tag else g

/-- MAG takes the begin of a HOLD_OFF (R125). -/
def State.holdOffBegins (tag : Nat) (s : State) : State :=
  s.modSegments fun k g => if s.held tag .m k then g.watch tag else g

/-- MAG's report at the end of a HOLD_OFF: a watch of the action is breached on some segment (R125). -/
def State.holdOffBreached (s : State) (tag : Nat) : Bool :=
  s.mag.segments.toList.any fun g => g.watches.any fun w => w.owner == tag && w.breached

/-- The hold-off watches of a record close (R125). -/
def State.closeHoldOff (tag : Nat) (s : State) : State :=
  s.modSegments fun _ g => { g with watches := g.watches.filter fun w => w.owner != tag }

/-- SEGMENT_COMPLETION (R122): taken when the completion time of segment `k` is reached. -/
def execSegmentCompletion (k : Fin 8) (s : State) : Host.Outcome State Fault Refusal :=
  .next (if due s.now s.mag.segments[k].completion
    then s.modMag fun m => { m with segments := m.segments.set k m.segments[k].complete }
    else s)

/-! ### The heat account -/

/-- The permitted duty L (R126). -/
def State.duty (s : State) : Nat := if s.mag.hotState then min s.line.dutyNorm s.line.dutyHot else s.line.dutyNorm

/-- One step of a heat account (R127), and the end of COOLING after a decrease (R130). -/
def Segment.heatStep (duty heatMax : Nat) (g : Segment) : Segment :=
  if g.driven then { g with heat := g.heat + (100 - duty) }
  else
    let h := g.heat - duty
    { g with heat := h, cooling := g.cooling && decide (heatMax / 2 < h) }

/-- The LIFT actions with a BEGUN claim on segment `k`. -/
def State.liftsOn (s : State) (k : Nat) : List Nat :=
  ((s.arb.lists .m).getD k []).filterMap fun c => if c.begun && c.kind == .lift then some c.owner else none

/-- MAG forces a LIFT off for heat: its tag leaves the holding sets, its claims are ENDED and leave their lists, and the outcome is
CUT(THERMAL) (R115, R124, R129). -/
def State.cutLift (tag : Nat) (s : State) : State := (s.letGo tag).refuse tag .m (.cut .thermal)

/-- The segment at its limit falls (R129). -/
def State.segmentFalls (k : Nat) (s : State) : State :=
  s.modSegments fun j g => if j = k then g.fall s.now s.line.magFallMs else g

/-- A segment has reached its limit (R129): COOLING, THERMAL, and if its drive was on, its lifts are cut and it falls. -/
def State.limitReached (k : Nat) (wasDriven : Bool) (s : State) : State :=
  let s1 := (s.modSegments fun j g => if j = k then { g with cooling := true } else g).latch .thermal
  if wasDriven then (s1.each (s1.liftsOn k) State.cutLift).segmentFalls k else s1

/-- The segments, by number, that a heat step brings to their limit: those that gain and stand at HEAT_MAX or above after it. -/
def State.atLimit (s : State) : List Nat :=
  (s.mag.segments.toList.zipIdx).filterMap fun x =>
    if x.1.driven && decide (s.line.heatMax ≤ x.1.heat + (100 - s.duty)) then some x.2 else none

/-- One heat step of the whole bank (R127): every account takes its step on the power states as they stand, and then the segments that
have reached their limit are taken, in either order (R129). -/
def State.heatStep (s : State) : State :=
  let hot := s.atLimit
  (s.modSegments fun _ g => g.heatStep s.duty s.line.heatMax).each hot fun k => State.limitReached k true

/-- HEAT_STEP (R127): taken when the time counter has reached a multiple of 1,000 µs. -/
def execHeatStep (s : State) : Host.Outcome State Fault Refusal :=
  .next (if s.mag.heatDue then (s.modMag fun m => { m with heatDue := false }).heatStep else s)

/-- The segments that stand at a new HEAT_MAX or above and are not COOLING, each with whether its drive is on (R131). -/
def State.overNewLimit (s : State) : List (Nat × Bool) :=
  (s.mag.segments.toList.zipIdx).filterMap fun x =>
    if !x.1.cooling && decide (s.line.heatMax ≤ x.1.heat) then some (x.2, x.1.driven) else none

/-- The effects of a written HEAT_MAX, in the order of R131. -/
def State.heatMaxWritten (s : State) : State :=
  let s1 := s.modSegments fun _ g => { g with heat := min g.heat (s.line.heatMax + 94) }
  (s1.each s1.overNewLimit fun x => State.limitReached x.1 x.2).modSegments fun _ g =>
    if g.cooling && decide (g.heat ≤ s.line.heatMax / 2) then { g with cooling := false } else g

/-! ### The hot input -/

/-- The OR of the levels of the aux terminals whose function is 1 (R128). -/
def State.hotLevel (s : State) : Bool :=
  (s.line.auxFn.toList.zipIdx).any fun x => decide (x.1 = 1) && s.inputs.aux.getLsbD x.2

/-- The OR is seen again, after a change of a level or of a function (R128): a change away from the hot state starts the debounce, a
change back to it withdraws it. -/
def State.seeHot (s : State) : State :=
  let v := s.hotLevel
  if v = s.mag.hotInput then s
  else s.modMag fun m =>
    { m with hotInput := v, hotDebounce := if v = m.hotState then none else some (after s.now 50000) }

/-- HOT_INPUT_CHANGE (R128): the aux terminals stand at new levels. -/
def execHotInputChange (levels : BitVec 8) (s : State) : Host.Outcome State Fault Refusal :=
  .next (s.modInputs fun i => { i with aux := levels }).seeHot

/-- HOT_DEBOUNCE_EXPIRY (R128). -/
def execHotDebounceExpiry (s : State) : Host.Outcome State Fault Refusal :=
  .next (if due s.now s.mag.hotDebounce
    then s.modMag fun m => { m with hotState := m.hotInput, hotDebounce := none }
    else s)

/-! ### Leaving READY, and the resets -/

/-- Every segment that is RISING or ON falls, with no action held and no watch left (R133, R134 PURGE). -/
def State.magnetReleases (s : State) : State :=
  s.modSegments fun _ g => ({ g with holding := [], watches := [] } : Segment).fallIfFree s.now s.line.magFallMs

/-- MAG at RESTART (R134): every segment OFF, completions and the MAG_OK watch withdrawn; heat accounts and COOLING kept. -/
def State.magnetRestarts (s : State) : State :=
  (s.modSegments fun _ g => { g with power := .off, holding := [], completion := none, watches := [] }).modMag fun m =>
    { m with okWatch := none }

end Sys2Proof.Machine
end

