-- ==== Sys2Proof/Machine/EddyCurrent.lean ====
section
/-! DEFINITION. The flaps of station E, their landing watches, and the rotor check at a record's departure (R142 to R145). -/

namespace Sys2Proof.Machine

/-- Rewrite every flap, each with its number. -/
def State.modFlaps (f : Nat → Flap → Flap) (s : State) : State := s.modEcs fun e => { e with flaps := e.flaps.mapIdx f }

/-- The position that a flap is commanded to, and the output FLAP_DRV: near or not (R143). -/
def FlapPos.near : FlapPos → Bool
  | .atNear => true
  | .movingNear => true
  | .atFar => false
  | .movingFar => false

/-- A flap is commanded toward a position (R143): a flap commanded there already is left as it is; any other moves for the full travel
time, and an armed watch whose claimed position it leaves is breached (R145). -/
def Flap.command (now : W32) (travelMs : Nat) (near : Bool) (f : Flap) : Flap :=
  if f.position.near = near then f
  else
    { position := if near then .movingNear else .movingFar
      completion := some (after now (travelMs * 1000))
      watches := f.watches.map fun w => if w.armed && w.near != near then { w with breached := true } else w }

/-- A landing watch opens, with its marks clear (R143). -/
def Flap.openWatch (tag : Nat) (near : Bool) (f : Flap) : Flap :=
  { f with watches := f.watches ++ [{ owner := tag, near := near, armed := false, breached := false }] }

/-- A NEAR or FAR action begins on the flaps of its set (R143). -/
def State.flapsBegin (tag : Nat) (near : Bool) (s : State) : State :=
  s.modFlaps fun k f => if s.held tag .e k then (f.command s.now s.line.flapTravelMs near).openWatch tag near else f

/-- The end of a flap's travel (R144). -/
def Flap.complete (f : Flap) : Flap :=
  { f with position := if f.position.near then .atNear else .atFar, completion := none }

/-- FLAP_COMPLETION (R144): taken when the completion time of flap `k` is reached. -/
def execFlapCompletion (k : Fin 4) (s : State) : Host.Outcome State Fault Refusal :=
  .next (if due s.now s.ecs.flaps[k].completion
    then s.modEcs fun e => { e with flaps := e.flaps.set k e.flaps[k].complete }
    else s)

/-- A flap counts as at a claimed position: AT it, or MOVING toward it with its completion time reached (R145). -/
def Flap.standsAt (now : W32) (near : Bool) (f : Flap) : Bool :=
  match f.position with
  | .atNear => near
  | .atFar => !near
  | .movingNear => near && due now f.completion
  | .movingFar => !near && due now f.completion

/-- The watches of a record are armed, and breached where the flap does not stand at the claimed position (R145). -/
def Flap.arm (now : W32) (tag : Nat) (f : Flap) : Flap :=
  { f with
    watches := f.watches.map fun w =>
      if w.owner = tag then { w with armed := true, breached := w.breached || !f.standsAt now w.near } else w }

/-- The landing watches of a record are armed (R145). -/
def State.armLanding (tag : Nat) (s : State) : State := s.modFlaps fun _ f => f.arm s.now tag

/-- The landing watches of a record close without report (R145). -/
def State.closeLanding (tag : Nat) (s : State) : State :=
  s.modFlaps fun _ f => { f with watches := f.watches.filter fun w => w.owner != tag }

/-- ECS's report at the end of a NEAR or FAR action: a watch of the action is breached on some flap (R145). -/
def State.landingBreached (s : State) (tag : Nat) : Bool :=
  s.ecs.flaps.toList.any fun f => f.watches.any fun w => w.owner == tag && w.breached

/-- The rotor check at a record's front departure (R142). -/
def State.rotorCheck (tag : Nat) (s : State) : State :=
  match s.find tag with
  | none => s
  | some r =>
    if r.eAction ≠ .none ∧ (r.outcome.e = .placed ∨ r.outcome.e = .acting) then
      if s.ecs.rotor = .run then
        if r.eAction = .spin then s.conclude tag .e .done else s.armLanding tag
      else (s.closeLanding tag).refuse tag .e (.denied .rotor)
    else s

/-- Every landing watch closes without report (R147, R149). -/
def State.closeAllLanding (s : State) : State := s.modFlaps fun _ f => { f with watches := [] }

end Sys2Proof.Machine
end

