-- ==== Sys2Proof/Machine/Air.lean ====
section
/-! DEFINITION. The jet timer: the pulse made at a record's departure, joining, opening and closing (R151 to R157). -/

namespace Sys2Proof.Machine

/-- Rewrite every nozzle's pulse list, each with its nozzle's number. -/
def State.modPulses (f : Nat → List Pulse → List Pulse) (s : State) : State :=
  s.modJet fun j => { j with pulses := j.pulses.mapIdx f }

/-! ### Joining -/

/-- The gap from the close of one pulse to the open of a later one is at most JET_GAP; pulses that overlap or touch have a gap of 0 or
less (R154). -/
def gapWithin (jetGap : Nat) (closeAt openAt : W32) : Bool :=
  !reached openAt closeAt || decide ((openAt - closeAt).toNat ≤ jetGap)

/-- Two pulses are joined (R154): the earlier is the one whose open time is reached first. -/
def Pulse.joins (jetGap : Nat) (a b : Pulse) : Bool :=
  if earlier b.openAt a.openAt then gapWithin jetGap b.closeAt a.openAt else gapWithin jetGap a.closeAt b.openAt

/-- The one pulse that replaces two: the earlier open, the later close, the union of the owners, OPEN if either was (R154). -/
def Pulse.join (a b : Pulse) : Pulse :=
  { openAt := if earlier b.openAt a.openAt then b.openAt else a.openAt
    closeAt := if earlier a.closeAt b.closeAt then b.closeAt else a.closeAt
    owners := b.owners ++ a.owners.filter fun t => !b.owners.contains t
    isOpen := a.isOpen || b.isOpen }

/-- Join a pulse with the pulses of a list until none is left to join, looking at most `fuel` times: the pulse so formed, and the rest of
the list (R154). -/
def Pulse.absorb (jetGap : Nat) : Nat → Pulse → List Pulse → Pulse × List Pulse
  | 0, p, l => (p, l)
  | fuel + 1, p, l =>
    match l.find? (p.joins jetGap) with
    | none => (p, l)
    | some q => Pulse.absorb jetGap fuel (p.join q) (l.erase q)

/-- A pulse takes its place in a list, by open time (R151). -/
def joinPulses (p : Pulse) : List Pulse → List Pulse
  | [] => [p]
  | x :: xs => if earlier p.openAt x.openAt then p :: x :: xs else x :: joinPulses p xs

/-- A pulse whose open time is reached is OPEN (R154, R155). -/
def Pulse.openIfReached (now : W32) (p : Pulse) : Pulse := { p with isOpen := p.isOpen || reached now p.openAt }

/-- The list that results when a new pulse is added to a nozzle, and the joined pulse in it (R154). -/
def addPulse (now : W32) (jetGap : Nat) (p : Pulse) (l : List Pulse) : Pulse × List Pulse :=
  let (q, rest) := Pulse.absorb jetGap l.length p l
  let q := q.openIfReached now
  (q, joinPulses q rest)

/-- A nozzle has no room: more than 4 pulses, or more than 4 owner tags on the joined pulse (R154). -/
def overfull (x : Pulse × List Pulse) : Bool := decide (4 < x.2.length) || decide (4 < x.1.owners.length)

/-! ### The pulse of a departure -/

/-- The pulse that R153 computes, trimmed where its open time is already reached; none if the trimmed pulse is too short. -/
def pulseFor (p : Line) (padUs length : Nat) (d : Departure) (tag : Nat) : Option Pulse :=
  let flight := timeOf d.t64Dep p.dAir
  let openAt := after d.tDep flight - BitVec.ofNat 32 p.valveLat
  let width := min p.pulseMax (max p.pulseMin (timeOf d.t64Dep length + padUs))
  let closeAt := after openAt width
  if reached d.tDep openAt then
    let left := (closeAt - d.tDep).toNat
    if p.pulseMin ≤ left ∧ left < 2 ^ 31 then some { openAt := d.tDep, closeAt := closeAt, owners := [tag], isOpen := false } else none
  else some { openAt := openAt, closeAt := closeAt, owners := [tag], isOpen := false }

/-- Add a pulse to every nozzle of a record's set, all or nothing (R154). -/
def State.addPulses (r : Record) (p : Pulse) (s : State) : State :=
  let set := resources .a r.span (s.paramsOf r).nozMargin
  let result := addPulse s.now s.line.jetGap p
  if (((s.jet.pulses.toList.take (set.2 + 1)).drop set.1).any fun l => overfull (result l)) then
    s.refuse r.tag .a (.denied .jetFull)
  else (s.modPulses fun n l => if set.1 ≤ n ∧ n ≤ set.2 then (result l).2 else l).trySettle r.tag

/-- JET makes the pulse of a record at its front departure (R152, R153, R154). -/
def State.makePulse (tag : Nat) (s : State) : State :=
  match s.find tag with
  | none => s
  | some r =>
    match r.departure, r.closing with
    | some d, some c =>
      if r.aAction = .eject ∧ (r.outcome.a = .placed ∨ r.outcome.a = .acting) then
        if s.pos.belt ≠ .running then s.refuse tag .a (.denied .slow)
        else
          match pulseFor s.line (s.paramsOf r).padUs c.length d tag with
          | none => s.refuse tag .a (.denied .late)
          | some p => s.addPulses r p
      else s
    | _, _ => s

/-! ### Opening and closing -/

/-- The first PENDING pulse of a list whose open time is reached becomes OPEN (R155). -/
def openFirst (now : W32) : List Pulse → List Pulse
  | [] => []
  | p :: ps => if !p.isOpen && reached now p.openAt then { p with isOpen := true } :: ps else p :: openFirst now ps

/-- PULSE_OPEN (R155): taken when the open time of a PENDING pulse of nozzle `n` is reached. -/
def execPulseOpen (n : Fin 64) (s : State) : Host.Outcome State Fault Refusal :=
  .next (s.modPulses fun k l => if k = n then openFirst s.now l else l)

/-- The OPEN pulse of a list whose close time is reached. -/
def closing (now : W32) (l : List Pulse) : Option Pulse := l.find? fun p => p.isOpen && reached now p.closeAt

/-- JET reports a pulse closed for one owner tag: DONE if it was the record's last (R156), and the settle test (R49). -/
def State.pulseClosed (tag : Nat) (s : State) : State :=
  if s.hasPulse tag then s.trySettle tag else s.conclude tag .a .done

/-- PULSE_CLOSE (R156): taken when the close time of the OPEN pulse of nozzle `n` is reached. -/
def execPulseClose (n : Fin 64) (s : State) : Host.Outcome State Fault Refusal :=
  .next (match closing s.now s.jet.pulses[n] with
    | none => s
    | some p => (s.modPulses fun k l => if k = n then l.erase p else l).each p.owners State.pulseClosed)

/-- A cancelled record's tag leaves the owner tags of its pulses; a pulse left with no owner leaves its list (R157). -/
def State.withdrawPulses (tag : Nat) (s : State) : State :=
  s.modPulses fun _ l => (l.map fun p => { p with owners := p.owners.filter fun t => t != tag }).filter fun p => p.owners != []

/-- Every pulse leaves its list (R159, R161). -/
def State.dropPulses (s : State) : State := s.modPulses fun _ _ => []

end Sys2Proof.Machine
end

