-- ==== Sys2Proof/Machine/Stations.lean ====
section
/-! DEFINITION. The availability of the three stations: leaving READY, the census, faults, the OK inputs and their watches, and the
emergency stop (R116, R132, R133, R146, R147, R158, R159, R165, R167). -/

namespace Sys2Proof.Machine

/-! ### Leaving READY -/

/-- The outcome that a record's action at a station takes when the station leaves READY, where it takes one (R116, R159). -/
def State.leavingOutcome (s : State) (st : Station) (why : Reason) (r : Record) : Option Result :=
  match r.route with
  | none => none
  | some e =>
    if !e.acts st || !(r.outcome.get st).inProgress || r.outcome.get st = .none then none
    else if s.hasBegun r.tag st then some (.cut why)
    else if st = .a ∧ s.hasPulse r.tag then some (.cut why)
    else if s.hasClaims r.tag st || e.spins st then some (.skipped why)
    else none

/-- A record has something at a station that is leaving READY: a claim, a pulse, or an outcome to take. -/
def State.concerns (s : State) (st : Station) (why : Reason) (r : Record) : Bool :=
  s.hasClaims r.tag st || (st == .a && s.hasPulse r.tag) || (s.leavingOutcome st why r).isSome

/-- The station's own block at its leaving READY: the field falls and hold-off watches close (R133), landing watches close (R147),
nozzles close (R159), and the fault watches of the station are withdrawn (R132, R146, R158). -/
def State.blockLeaves (st : Station) (s : State) : State :=
  match st with
  | .m => s.magnetReleases.modMag fun m => { m with okWatch := none }
  | .e => s.closeAllLanding.modEcs fun e => { e with driveWatch := none, flapWatch := none }
  | .a => s.dropPulses.modJet fun j => { j with okWatch := none }

/-- Station `st` leaves READY, and ARB and its own block handle it at once (R116), but for the settle test: outcomes are written, the
lists of the station are emptied, and ECS evaluates the demand and the needs. -/
def State.leaveReady (st : Station) (why : Reason) (s : State) : State :=
  let outcomes := s.leavingOutcome st why
  let s1 := s.modTab fun t =>
    { t with
      records := t.records.map fun r =>
        match outcomes r with
        | some o => { r with outcome := r.outcome.set st o }
        | none => r }
  let s2 := ((s1.modArb fun a => a.map st fun _ _ => []).blockLeaves st).evalDemand
  if st = .e then
    ((s.tab.records.filter fun r => (outcomes r).isSome).map (·.tag)).foldl (fun s t => s.refreshNeed t) s2
  else s2

/-- A station takes a new state that is not READY; if it was READY, its leaving is handled (R165). -/
def State.goTo (st : Station) (avail : Avail) (wait : Option W32) (why : Reason) (s : State) : State :=
  let s1 := s.modStation st fun i => { i with avail := avail, wait := wait }
  if s.avail st = .ready then s1.leaveReady st why else s1

/-- The tags of the records that the leaving of some of the stations concerns. -/
def State.concernedBy (sts : List Station) (why : Reason) (s : State) : List Nat :=
  (s.tab.records.filter fun r => sts.any fun st => s.avail st == .ready && s.concerns st why r).map (·.tag)

/-- Stations take a new state that is not READY, in one event (R165), and every record concerned is put to the settle test (R116). -/
def State.goAll (sts : List Station) (avail : Avail) (wait : Option W32) (why : Reason) (s : State) : State :=
  (sts.foldl (fun s st => s.goTo st avail wait why) s).each (s.concernedBy sts why) State.trySettle

/-- A station becomes READY; its wait is withdrawn, and ECS evaluates the demand (R137, R165). -/
def State.becomeReady (st : Station) (s : State) : State :=
  (s.modStation st fun i => { i with avail := .ready, wait := none }).evalDemand

/-- A census of some stations, in one event (R165): INTERROGATING, and READY at once where the OK input is asserted. -/
def State.censusOf (sts : List Station) (s : State) : State :=
  let s1 := s.goAll sts .interrogating (some (after s.now (s.line.censusWaitMs * 1000))) .offline
  sts.foldl (fun s st => if okInput s.inputs st then s.becomeReady st else s) s1

/-- All three stations. -/
def allStations : List Station := [.m, .e, .a]

/-- A fault that a station's own block reports: from READY alone, FAULTED and STATION (R165). -/
def State.faultStation (st : Station) (s : State) : State :=
  if s.avail st = .ready then (s.goAll [st] .faulted none .fault).latch .station else s

/-- The OK input of a station has become asserted (R165). -/
def State.okAsserted (st : Station) (s : State) : State :=
  if s.avail st = .interrogating then s.becomeReady st else s

/-! ### The OK inputs and their watches -/

/-- The fault watch of an OK input, after a change of the input to `level` while the station is READY (R132, R146, R158). -/
def watchAfter (now : W32) (level : Bool) : Option W32 := if level then none else some (after now 20000)

/-- MAG_OK_CHANGE (R132, R165). -/
def execMagOkChange (level : Bool) (s : State) : Host.Outcome State Fault Refusal :=
  .next (if level = s.inputs.magOk then s
    else
      let s1 := s.modInputs fun i => { i with magOk := level }
      if s1.avail .m = .ready then s1.modMag fun m => { m with okWatch := watchAfter s1.now level }
      else if level then s1.okAsserted .m
      else s1)

/-- MAG_OK_WATCH_EXPIRY (R132). -/
def execMagOkWatchExpiry (s : State) : Host.Outcome State Fault Refusal :=
  .next (if due s.now s.mag.okWatch then (s.modMag fun m => { m with okWatch := none }).faultStation .m else s)

/-- ECS_OK_CHANGE (R146, R165): each of the two inputs has its own watch; the census sees both asserted. -/
def execEcsOkChange (drive flap : Bool) (s : State) : Host.Outcome State Fault Refusal :=
  .next (
    let s1 := s.modInputs fun i => { i with driveOk := drive, flapOk := flap }
    if s1.avail .e = .ready then
      s1.modEcs fun e =>
        { e with
          driveWatch := if drive = s.inputs.driveOk then e.driveWatch else watchAfter s1.now drive
          flapWatch := if flap = s.inputs.flapOk then e.flapWatch else watchAfter s1.now flap }
    else if okInput s1.inputs .e && !okInput s.inputs .e then s1.okAsserted .e
    else s1)

/-- ECS_OK_WATCH_EXPIRY (R146): the watch of DRIVE_OK or of FLAP_OK. -/
def execEcsOkWatchExpiry (which : EcsInput) (s : State) : Host.Outcome State Fault Refusal :=
  .next (match which with
    | .drive => if due s.now s.ecs.driveWatch then (s.modEcs fun e => { e with driveWatch := none }).faultStation .e else s
    | .flap => if due s.now s.ecs.flapWatch then (s.modEcs fun e => { e with flapWatch := none }).faultStation .e else s)

/-- JET_OK_CHANGE (R158, R165). -/
def execJetOkChange (level : Bool) (s : State) : Host.Outcome State Fault Refusal :=
  .next (if level = s.inputs.jetOk then s
    else
      let s1 := s.modInputs fun i => { i with jetOk := level }
      if s1.avail .a = .ready then s1.modJet fun j => { j with okWatch := watchAfter s1.now level }
      else if level then s1.okAsserted .a
      else s1)

/-- JET_OK_WATCH_EXPIRY (R158). -/
def execJetOkWatchExpiry (s : State) : Host.Outcome State Fault Refusal :=
  .next (if due s.now s.jet.okWatch then (s.modJet fun j => { j with okWatch := none }).faultStation .a else s)

/-- STALL_WATCH_EXPIRY (R141): ROTOR latches and station E is reported as faulted. -/
def execStallWatchExpiry (s : State) : Host.Outcome State Fault Refusal :=
  .next (if due s.now s.ecs.stall
    then ((s.modEcs fun e => { e with stall := none }).latch .rotor).faultStation .e
    else s)

/-- CENSUS_WAIT_EXPIRY (R165): an INTERROGATING station whose wait is reached becomes ABSENT. -/
def execCensusWaitExpiry (st : Station) (s : State) : Host.Outcome State Fault Refusal :=
  .next (if s.avail st = .interrogating ∧ due s.now (s.lsig.stations.get st).wait
    then (s.modStation st fun i => { i with avail := .absent, wait := none }).latch .station
    else s)

/-! ### The emergency stop -/

/-- ESTOP_INPUT_CHANGE (R167): a level away from the E-stop state starts the 100 µs filter; a change back discards it. -/
def execEstopInputChange (level : Bool) (s : State) : Host.Outcome State Fault Refusal :=
  .next (if level = s.inputs.estop then s
    else
      (s.modInputs fun i => { i with estop := level }).modLsig fun l =>
        { l with estopFilter := if level = l.estop then none else some (after s.now 100) })

/-- ESTOP_ASSERTED (R167): the input has held its asserted level for 100 µs. -/
def execEstopAsserted (s : State) : Host.Outcome State Fault Refusal :=
  .next (if due s.now s.lsig.estopFilter && s.inputs.estop then
      (((s.modLsig fun l => { l with estop := true, estopFilter := none }).latch .estop).evalDemand).goAll allStations .offline none .estop
    else s)

/-- ESTOP_RELEASED (R167): the input has held its deasserted level for 100 µs; the stations stay OFFLINE. -/
def execEstopReleased (s : State) : Host.Outcome State Fault Refusal :=
  .next (if due s.now s.lsig.estopFilter && !s.inputs.estop then
      (s.modLsig fun l => { l with estop := false, estopFilter := none }).evalDemand
    else s)

/-- SWITCH_MARK_END (R169): the mark is deasserted. -/
def execSwitchMarkEnd (s : State) : Host.Outcome State Fault Refusal :=
  .next (if due s.now s.lsig.switchMark then s.modLsig fun l => { l with switchMark := none } else s)

end Sys2Proof.Machine
end

