-- ==== Sys2Proof/Machine/Router.lean ====
section
/-! DEFINITION. The router: the validity of a route entry, the column, and the route at the decision point (R75, R77 to R79), with the
recipe switch of R92, which falls among the reached positions too. -/

namespace Sys2Proof.Machine

/-! ### Route entries -/

/-- The combinations of R75, the priority apart. -/
def RouteEntry.valid (e : RouteEntry) : Bool :=
  match e.target with
  | .ferrous => e.m == .lift && e.e == .none && e.a == .none
  | .nonferrous => e.m != .lift && e.e != .none && e.a != .eject
  | .eject => e.m != .lift && e.a == .eject
  | .residue => e.m != .lift && e.a != .eject

/-- The row of a signature (section 10.7). -/
def Signature.row : Signature → Fin 5
  | .ferrous => 0
  | .nonferrous => 1
  | .stainless => 2
  | .mixed => 3
  | .faint => 4

/-- An entry of a recipe, by row and column (R76). -/
def Recipe.entry (r : Recipe) (row : Fin 5) : Column → RouteEntry
  | .col n => r.rows[row][n]
  | .overlength => r.overlength

/-- The column that the router chooses for a record (R78). -/
def Record.chooseColumn (r : Record) (confMin : Nat) : Column :=
  if r.flags.overlength || r.flags.continued then .overlength
  else
    match r.verdict with
    | none => .col 15
    | some v => if v.conf < confMin then .col 14 else .col (Fin.ofNat 16 v.code)

/-- The verdict of a record whose forced route is used, or whose route is overridden (R77, R81). -/
def Record.bySupervisor (r : Record) : Option Verdict := r.verdict.map fun v => { v with source := .supervisor }

/-- The router writes route and column into a record, and FTAB makes it ROUTED (R77, R78, R79). -/
def Record.routeWith (r : Record) (recipe : Recipe) (signature : Signature) : Record :=
  let column := r.chooseColumn recipe.params.confMin
  match r.forced with
  | some e => { r with state := .routed, route := some e, column := some column, verdict := r.bySupervisor }
  | none => { r with state := .routed, route := some (recipe.entry signature.row column), column := some column }

/-- A record's decision point (R46, R77, R79): a PENDING record is routed, and its actions are placed. -/
def State.decisionPoint (tag : Nat) (s : State) : State :=
  match s.find tag with
  | none => s
  | some r =>
    match r.closing with
    | none => s
    | some c =>
      if r.state = .pending then
        ((s.modRecord tag fun r => r.routeWith s.rcp.slots[r.slot].recipe c.signature).refreshNeed tag).placeRoute tag
      else s

/-- An override of a ROUTED record none of whose claims has begun (R81): the claims are withdrawn, the outcomes are NONE, the entry is
the route, and the new route is placed at once. -/
def State.replaceRoute (tag : Nat) (e : RouteEntry) (s : State) : State :=
  (((s.withdrawAll tag).modRecord tag fun r =>
    { r with
      route := some e
      flags := { r.flags with overridden := true }
      verdict := r.bySupervisor
      outcome := { m := .none, e := .none, a := .none } }).refreshNeed tag).placeRoute tag

/-! ### The recipe switch -/

/-- The old ACTIVE slot at a switch (R92): DRAINING while records carry it, else FREE with the default recipe. -/
def Slot.retired (rotorMax : Nat) (k : Slot) : Slot :=
  if 0 < k.refs then { k with state := .draining } else Slot.freed rotorMax

/-- The slot states after a switch (R92): ACTIVE gives way, ARMED becomes ACTIVE. -/
def Slot.switched (rotorMax : Nat) (k : Slot) : Slot :=
  match k.state with
  | .active => k.retired rotorMax
  | .armed => { k with state := .active }
  | _ => k

/-- The pending switch takes effect (R92): slot states, the SWITCH_MARK time (R169), and the demand and rotor state (R148). -/
def State.switchTakesEffect (s : State) : State :=
  (((s.modRcp fun r => { r with slots := r.slots.mapIdx fun _ k => k.switched r.line.rotorMaxRpm, psw := none }).modLsig fun l =>
    { l with switchMark := some (after s.now 10000) }).evalDemand).evalRotor

/-- The switch position is reached (R92): a switch that has been cancelled is not delivered. -/
def State.switchPoint (s : State) : State := if s.rcp.psw = some s.here then s.switchTakesEffect else s

end Sys2Proof.Machine
end

