-- ==== Sys2Proof/Machine/Actions.lean ====
section
/-! DEFINITION. What ARB and FTAB do when a record's points are reached: the begin, release and end of an action, the front departure and
the tail departure (R47, R48, R112 to R114). -/

namespace Sys2Proof.Machine

/-- The claims of a record's action at a station. -/
def State.claimsOf (s : State) (tag : Nat) (st : Station) : List Claim :=
  (s.arb.lists st).flatMap fun l => l.filter fun c => c.owner == tag

/-- The kind of a record's action that has a claim at a station for which `p` holds. All claims of an action are alike (R102). -/
def State.actionAt (s : State) (tag : Nat) (st : Station) (p : Claim → Bool) : Option ClaimKind :=
  ((s.claimsOf tag st).find? p).map (·.kind)

/-- Every claim of the action becomes BEGUN (R112). -/
def State.beginClaims (tag : Nat) (st : Station) (s : State) : State :=
  s.modArb fun a => a.map st fun _ l => l.map fun c => if c.owner = tag then { c with begun := true } else c

/-- The outcome becomes ACTING if it is PLACED (R112). -/
def State.beginOutcome (tag : Nat) (st : Station) (s : State) : State :=
  s.modRecord tag fun r => if r.outcome.get st = .placed then { r with outcome := r.outcome.set st .acting } else r

/-- The station takes the begin of an action (R112): MAG by R121 and R125, ECS by R143; for the nozzle kinds no station is told. -/
def State.stationBegins (tag : Nat) : ClaimKind → State → State
  | .lift, s => s.liftBegins tag
  | .holdOff, s => s.holdOffBegins tag
  | .near, s => s.flapsBegin tag true
  | .far, s => s.flapsBegin tag false
  | .eject, s => s
  | .guard, s => s

/-- The start of a record's action is reached (R112). -/
def State.actionBegins (tag : Nat) (st : Station) (s : State) : State :=
  match s.actionAt tag st fun c => !c.begun && c.start == s.here with
  | none => s
  | some kind =>
    (((((s.beginClaims tag st).beginOutcome tag st).modStation st fun i => { i with acted := true }).stationBegins tag
      kind)).trySettle tag

/-- The release point of a record's LIFT is reached (R113, R123). -/
def State.liftReleased (tag : Nat) (s : State) : State :=
  match s.actionAt tag .m fun c => c.begun && c.release == some s.here with
  | none => s
  | some _ => s.letGo tag

/-- The outcome that the end of an action writes (R114): none for an EJECT, whose outcome JET's reports give. -/
def State.endOutcome (s : State) (tag : Nat) : ClaimKind → Option Result
  | .lift => some .done
  | .holdOff => some (if s.holdOffBreached tag then .breached else .done)
  | .near => some (if s.landingBreached tag then .breached else .done)
  | .far => some (if s.landingBreached tag then .breached else .done)
  | .eject => none
  | .guard => some .done

/-- The station's part in an action end: the watches of the action close (R125, R145). -/
def State.stationEnds (tag : Nat) : ClaimKind → State → State
  | .lift, s => s
  | .holdOff, s => s.closeHoldOff tag
  | .near, s => s.closeLanding tag
  | .far, s => s.closeLanding tag
  | .eject, s => s
  | .guard, s => s

/-- The end of a record's action is reached (R114). -/
def State.actionEnds (tag : Nat) (st : Station) (s : State) : State :=
  match s.actionAt tag st fun c => c.begun && c.stop == s.here with
  | none => s
  | some kind =>
    let s1 :=
      match s.endOutcome tag kind with
      | some o => s.setOutcome tag st o
      | none => s
    ((s1.stationEnds tag kind).withdraw tag st).trySettle tag

/-- A record's front departure is reached (R47): AIRBORNE, the departure field, the rotor check (R142) and the pulse (R152). -/
def State.frontDeparts (tag : Nat) (s : State) : State :=
  match s.find tag with
  | none => s
  | some r =>
    if r.state = .routed then
      ((s.modRecord tag fun r =>
        { r with state := .airborne, departure := some { tDep := s.now, t64Dep := s.pos.t64 } }).rotorCheck tag).makePulse tag
    else s

/-- A record has a tail departure at a position: its tracker has closed, and it has not settled, which withdraws the point (R45, R50). -/
def Record.departsAt (p : Line) (here : W32) (r : Record) : Bool :=
  r.state != .settled && r.closing.any fun c => after c.t p.pHead == here

/-- A record's tail departure is reached (R48): the settle test is applied. A tag whose record has settled, or has been retired and given
to another record, has had the point withdrawn (R50, R56). -/
def State.tailDeparts (tag : Nat) (s : State) : State :=
  match s.find tag with
  | none => s
  | some r =>
    if r.departsAt s.line s.here then (s.modRecord tag fun r => { r with tailGone := true }).trySettle tag else s

end Sys2Proof.Machine
end

