-- ==== Sys2Proof/Machine/Segmenter.lean ====
section
/-! DEFINITION. One scan, from the coils to the table: SCAN's judgement of each coil (R19 to R24) and SEG's segmentation (R26 to R37),
with the close of a record and its sighting notice (R45, R74). -/

namespace Sys2Proof.Machine

/-! ### The coils -/

/-- The excess of a coil in service (R20). -/
def Coil.excess (c : Coil) (amp : Nat) : Nat := amp - c.k / 256

/-- The baseline follows the amplitude (R20). -/
def Coil.track (c : Coil) (amp : Nat) : Nat := min 1048575 (c.k + amp - c.k / 256)

/-- The stuck count of a coil in NORMAL state after a scan (R24). -/
def Coil.stuckAfter (c : Coil) (amp : Nat) : Nat := if amp = 0 ∨ amp = 4095 then min 1000 (c.stuck + 1) else 0

/-- The activity test of R21. -/
def Coil.activeAfter (p : RecipeParams) (c : Coil) (amp : Nat) : Bool :=
  if c.active then decide (p.tOff < c.excess amp) else decide (p.tOn ≤ c.excess amp)

/-- A coil after a scan that finds the settling count at `settling` (R20, R21, R23, R24). -/
def Coil.scan (p : RecipeParams) (settling amp : Nat) (c : Coil) : Coil :=
  if c.faulted then { c with active := false }
  else
    let stuck := c.stuckAfter amp
    if 1000 ≤ stuck then { c with active := false, stuck := stuck, faulted := true }
    else if settling < 64 then
      { c with k := if settling = 0 then 256 * amp else c.track amp, active := false, stuck := stuck }
    else if c.activeAfter p amp then { c with active := true, stuck := stuck }
    else { c with k := c.track amp, active := false, stuck := stuck }

/-- A phase lies in a window, which wraps if its low limit is above its high limit (R22). -/
def inWindow (lo hi phase : Nat) : Bool :=
  if lo ≤ hi then decide (lo ≤ phase ∧ phase ≤ hi) else decide (lo ≤ phase ∨ phase ≤ hi)

/-- The phase class (R22); none is UNCLASSED. -/
def phaseClass (p : RecipeParams) (phase : Nat) : Option Metal :=
  if inWindow p.fLo p.fHi phase then some .ferrous
  else if inWindow p.sLo p.sHi phase then some .stainless
  else if inWindow p.nLo p.nHi phase then some .nonferrous
  else none

/-- What SEG reads of one coil at a scan. -/
structure Reading where
  active : Bool
  excess : Nat
  phase  : Nat
  metal  : Option Metal
  deriving DecidableEq, Repr

/-- The reading of a coil: its activity after the scan, the excess against the baseline before it, and the class of the phase. -/
def Coil.read (p : RecipeParams) (before after' : Coil) (x : Sample) : Reading :=
  { active := after'.active
    excess := if after'.faulted then 0 else before.excess x.amp.toNat
    phase := x.phase.toNat
    metal := phaseClass p x.phase.toNat }

/-- The coils after a scan. -/
def Scan.judge (p : RecipeParams) (samples : Vector Sample 32) (b : Scan) : Vector Coil 32 :=
  Vector.ofFn fun k => b.coils[k].scan p b.settling samples[k].amp.toNat

/-- The readings of a scan, in order of coil number. -/
def Scan.readings (p : RecipeParams) (samples : Vector Sample 32) (b : Scan) : List Reading :=
  (Vector.ofFn fun k : Fin 32 => Coil.read p b.coils[k] (b.judge p samples)[k] samples[k]).toList

/-- A coil becomes FAULTED at a scan (R24). -/
def Scan.faults (p : RecipeParams) (samples : Vector Sample 32) (b : Scan) : Bool :=
  (List.finRange 32).any fun k => !b.coils[k].faulted && (b.judge p samples)[k].faulted

/-! ### Runs and trackers -/

/-- The runs among the activities of coils `i`, `i + 1`, ..., with the start of a run that is still going on (R27). -/
def runsFrom (i : Nat) (start : Option Nat) : List Bool → List Span
  | [] =>
    match start with
    | some a => [{ first := a, last := i - 1 }]
    | none => []
  | true :: rest => runsFrom (i + 1) (some (start.getD i)) rest
  | false :: rest =>
    match start with
    | some a => { first := a, last := i - 1 } :: runsFrom (i + 1) none rest
    | none => runsFrom (i + 1) none rest

/-- A run meets a span widened by one coil at each side (R27). -/
def Span.near (s run : Span) : Bool := decide (run.first ≤ s.last + 1 ∧ s.first ≤ run.last + 1)

/-- The union of two spans (R26, R31): a span is a range. -/
def Span.union (a b : Span) : Span := { first := min a.first b.first, last := max a.last b.last }

/-- A class joins the classes seen (R26). -/
def Classes.add (c : Classes) : Metal → Classes
  | .ferrous => { c with ferrous := true }
  | .nonferrous => { c with nonferrous := true }
  | .stainless => { c with stainless := true }

/-- The union of two sets of classes. -/
def Classes.union (a b : Classes) : Classes :=
  { ferrous := a.ferrous || b.ferrous, nonferrous := a.nonferrous || b.nonferrous, stainless := a.stainless || b.stainless }

/-- The signature of the classes seen (R33). -/
def Classes.signature (c : Classes) : Signature :=
  match c.ferrous, c.nonferrous, c.stainless with
  | false, false, false => .faint
  | true, false, false => .ferrous
  | false, true, false => .nonferrous
  | false, false, true => .stainless
  | _, _, _ => .mixed

/-- A tracker takes one coil as its sample (R26). -/
def Tracker.sample (tMix : Nat) (t : Tracker) (r : Reading) : Tracker :=
  { t with
    peak := if t.peak.excess < r.excess then { excess := r.excess, phase := r.phase } else t.peak
    classes :=
      match r.metal with
      | some m => if tMix ≤ r.excess then t.classes.add m else t.classes
      | none => t.classes }

/-- A tracker takes a run (R26). The coils of the run are sampled in order of coil number, which R26 leaves open: of two that share the
largest excess the lower gives the peak its phase (DESIGN CHOICE, assumption log entry 14). -/
def Tracker.take (tMix : Nat) (readings : List Reading) (run : Span) (t : Tracker) : Tracker :=
  { ((readings.take (run.last + 1)).drop run.first).foldl (Tracker.sample tMix) t with span := t.span.union run }

/-- A tracker is bound. -/
def Tracker.isBound (t : Tracker) : Bool :=
  match t.kind with
  | .bound _ => true
  | .shadow _ => false

/-- The rule of survivors (R30): `a` survives a merge with `b`. -/
def Tracker.survives (a b : Tracker) : Bool :=
  if a.isBound != b.isBound then a.isBound
  else if a.f = b.f then decide (a.span.first < b.span.first)
  else earlier a.f b.f

/-- The kind of the survivor of a merge (R31): two shadows count if either did. -/
def TrackerKind.merged : TrackerKind → TrackerKind → TrackerKind
  | .shadow c, .shadow d => .shadow (c || d)
  | k, _ => k

/-- The survivor takes what the loser brings (R31). -/
def Tracker.merge (a b : Tracker) : Tracker :=
  { kind := a.kind.merged b.kind
    span := a.span.union b.span
    f := a.f
    lastSeen := if earlier a.lastSeen b.lastSeen then b.lastSeen else a.lastSeen
    gap := min a.gap b.gap
    peak := if a.peak.excess < b.peak.excess then b.peak else a.peak
    classes := a.classes.union b.classes
    continued := a.continued || b.continued }

/-- A tracker within a scan, with whether it has taken a run at this scan. -/
structure Live where
  tracker : Tracker
  took    : Bool
  deriving DecidableEq, Repr

/-- The survivor of a group (R30): the tracker that the rule chooses over each of the others. -/
def survivor (x : Live) (xs : List Live) : Live := xs.foldl (fun b y => if y.tracker.survives b.tracker then y else b) x

/-- SEG writes a bound tracker's record (R26, R31): span, peak, classes seen, and CONTINUED where a loser brought it. -/
def State.syncRecord (t : Tracker) (s : State) : State :=
  match t.kind with
  | .bound tag =>
    s.modRecord tag fun r =>
      { r with
        span := t.span, peak := t.peak, classes := t.classes
        flags := { r.flags with continued := r.flags.continued || t.continued } }
  | .shadow _ => s

/-- A loser's record, if any, is retired by merge (R31, R57). -/
def State.retireLoser (t : Tracker) (s : State) : State :=
  match t.kind with
  | .bound tag => s.retireTag tag
  | .shadow _ => s

/-- A group of trackers merges into one (R30, R31). The losers are taken in an order that a free value picks: it is seen only where two
of them share the largest excess. -/
def State.mergeGroup (x : Live) (xs : List Live) (s : State) : Live × State :=
  let best := survivor x xs
  let r := s.shuffle xs.length ((x :: xs).erase best)
  let s1 := r.1.foldl (fun s y => s.retireLoser y.tracker) r.2
  let merged := r.1.foldl (fun t y => Tracker.merge t y.tracker) best.tracker
  ({ tracker := merged, took := (x :: xs).any (·.took) }, s1.syncRecord merged)

/-- A tracker opens for a run (R28, R37). -/
def State.openTracker (tMix : Nat) (readings : List Reading) (notes : List Span) (run : Span) (s : State) : Live × State :=
  let blank : Tracker :=
    { kind := .shadow true, span := run, f := s.here, lastSeen := s.here, gap := 0, peak := { excess := 0, phase := 0 }
      classes := { ferrous := false, nonferrous := false, stainless := false }
      continued := notes.any fun n => n.near run }
  let t := blank.take tMix readings run
  match s.openRecord t with
  | (some tag, s1) => ({ tracker := { t with kind := .bound tag }, took := true }, s1)
  | (none, s1) => ({ tracker := t, took := true }, s1.latch .tableFull)

/-- SEG takes one run (R27). -/
def State.takeRun (tMix : Nat) (readings : List Reading) (notes : List Span) (run : Span) (w : List Live × State) :
    List Live × State :=
  let apart := w.1.filter fun y => !y.tracker.span.near run
  match w.1.filter fun y => y.tracker.span.near run with
  | [] =>
    let r := w.2.openTracker tMix readings notes run
    (apart ++ [r.1], r.2)
  | x :: xs =>
    let r := w.2.mergeGroup x xs
    let t := r.1.tracker.take tMix readings run
    (apart ++ [{ tracker := t, took := true }], r.2.syncRecord t)

/-- Trackers in order of the first coil of their spans. -/
def insertLive (x : Live) : List Live → List Live
  | [] => [x]
  | y :: ys => if y.tracker.span.first ≤ x.tracker.span.first then y :: insertLive x ys else x :: y :: ys

def sortLive : List Live → List Live
  | [] => []
  | x :: xs => insertLive x (sortLive xs)

/-- The stretches of trackers whose spans meet or adjoin (R29), of trackers in order of their first coils: `cur` is the stretch at hand,
which reaches to coil `last`. -/
def stretches (cur : List Live) (last : Nat) : List Live → List (List Live)
  | [] => [cur]
  | x :: xs =>
    if x.tracker.span.first ≤ last + 1 then stretches (cur ++ [x]) (max last x.tracker.span.last) xs
    else cur :: stretches [x] x.tracker.span.last xs

/-- SEG merges the trackers that meet or adjoin after all runs have been taken (R29). -/
def State.mergeAdjoining (w : List Live × State) : List Live × State :=
  match sortLive w.1 with
  | [] => w
  | x :: xs =>
    (stretches [x] x.tracker.span.last xs).foldl (fun acc g =>
      match g with
      | [] => acc
      | [y] => (acc.1 ++ [y], acc.2)
      | y :: ys =>
        let r := acc.2.mergeGroup y ys
        (acc.1 ++ [r.1], r.2)) ([], w.2)

/-! ### Closing -/

/-- A frame joins the tail of the classifier link's transmit queue. -/
def LinkState.send (f : TxFrame) (l : LinkState) : LinkState := { l with txQueue := l.txQueue ++ [f] }

/-- The sighting notice of a closed record: kind C0h and its body (section 10.7). -/
def Record.sighting (r : Record) (c : Closing) : TxFrame :=
  { kind := 0xC0#8
    body := le 2 r.tag ++ le 4 r.f.toNat ++ le 4 c.t.toNat ++ le 1 r.span.first ++ le 1 r.span.last ++ [c.signature.code] ++
      le 1 r.slot.val
    rateAfter := none }

/-- A notice falls due: it joins the transmit queue if SIGHT_EN is 1 and there is a free place (R74). -/
def State.sight (r : Record) (c : Closing) (s : State) : State :=
  if s.line.sightEn = 1 ∧ s.clink.txQueue.length < 32 then s.modClink (LinkState.send (r.sighting c)) else s

/-- A tracker hands its record to FTAB (R33, R45): PENDING, with T, L and signature, the notice, and the early need (R139). -/
def State.closeRecord (tag : Nat) (c : Closing) (isLong : Bool) (s : State) : State :=
  let s1 := s.modRecord tag fun r =>
    { r with state := .pending, closing := some c, flags := { r.flags with overlength := r.flags.overlength || isLong } }
  match s1.find tag with
  | some r => (s1.sight r c).refreshNeed tag
  | none => s1

/-- A tracker closes with tail `t` (R33, R34, R35, R36). -/
def State.closeTracker (x : Tracker) (t : W32) (isLong : Bool) (s : State) : State :=
  match x.kind with
  | .bound tag => s.closeRecord tag { t := t, length := (t - x.f + 4).toNat, signature := x.classes.signature } isLong
  | .shadow true => s.modTotals fun n => { n with untracked := countUp 1 n.untracked }
  | .shadow false => s

/-- The gap count and last-seen position of a tracker after the merges of a scan (R32). -/
def Live.age (here : W32) (x : Live) : Live :=
  { x with tracker :=
      if x.took then { x.tracker with gap := 0, lastSeen := here } else { x.tracker with gap := x.tracker.gap + 1 } }

/-- How a tracker ends at a scan, if it does: its tail, and whether it closes as overlength (R33, R34, R35). -/
def Live.ending (here : W32) (gapScans lMax : Nat) (x : Live) : Option (W32 × Bool) :=
  let long := decide (lMax ≤ (here - x.tracker.f + 4).toNat)
  if gapScans ≤ x.tracker.gap then some (x.tracker.lastSeen, false)
  else if x.took && long then some (here, true)
  else if !x.took && long then some (x.tracker.lastSeen, false)
  else none

/-- SEG applies the closing tests to one tracker (R32): a tracker that closes is gone, and leaves a note if it was overlength (R34). -/
def State.closeStep (gapScans lMax : Nat) (s : State) (x : Live) : State :=
  match x.ending s.here gapScans lMax with
  | none => s.modSeg fun g => { g with trackers := g.trackers ++ [x.tracker] }
  | some (t, isLong) =>
    let s1 := s.closeTracker x.tracker t isLong
    if isLong then s1.modSeg fun g => { g with notes := g.notes ++ [x.tracker.span] } else s1

/-- The segmentation of a scan (section 2.7 to 2.10). -/
def State.segment (p : RecipeParams) (readings : List Reading) (s : State) : State :=
  let notes := s.seg.notes
  let live := s.seg.trackers.map fun t => ({ tracker := t, took := false } : Live)
  let runs := runsFrom 0 none (readings.map (·.active))
  let w := runs.foldl (fun w run => State.takeRun p.tMix readings notes run w) (live, s)
  let m := State.mergeAdjoining w
  let aged := sortLive (m.1.map (Live.age s.here))
  aged.foldl (State.closeStep p.gapScans s.line.lMax) (m.2.modSeg fun _ => { trackers := [], notes := [] })

/-- One scan (R19 to R37): SCAN judges the coils, and SEG works through the segmentation. -/
def State.scanBar (samples : Vector Sample 32) (s : State) : State :=
  let p := s.activeParams
  let b := s.scan
  let s1 := s.modScan fun b => { coils := b.judge p samples, settling := min 64 (b.settling + 1) }
  let s2 := if b.faults p samples then s1.latch .coil else s1
  s2.segment p (b.readings p samples)

end Sys2Proof.Machine
end

