-- ==== Sys2Proof/Machine/Position.lean ====
section
/-! DEFINITION. The position unit: the encoder, backlash, the advance and what falls at it, T64 and the belt state (R1 to R5, R8, R10 to
R12). -/

namespace Sys2Proof.Machine

/-! ### Speed and belt state -/

/-- The belt state that a value of T64 reads (R12). -/
def beltReading (t64 t64Run : Nat) : BeltState := if t64 ≤ t64Run then .running else .creeping

/-- A difference of two times, held within the range of T64 (R11). -/
def holdT64 (d : Nat) : Nat := min 1048575 (max 3200 d)

/-- A group of 64 advances is complete (R11). -/
def Pos.completeGroup (t64Run : Nat) (p : Pos) : Pos :=
  let p1 := { p with groupCount := 0, completion := p.time, completionsSeen := min 2 (p.completionsSeen + 1) }
  if p.completionsSeen = 0 then p1
  else
    let t := holdT64 (p.time - p.completion).toNat
    { p1 with t64 := t, belt := if p.belt = .stopped then .stopped else beltReading t t64Run }

/-- The belt stops (R12). -/
def Pos.stop (p : Pos) : Pos :=
  { p with belt := .stopped, t64 := 1048575, groupCount := 0, completionsSeen := 0, stopTimer := none }

/-- STOP_TIMER_EXPIRY (R12): taken when the stop timer's time is reached. -/
def execStopTimerExpiry (s : State) : Host.Outcome State Fault Refusal :=
  .next (if due s.now s.pos.stopTimer then s.modPos Pos.stop else s)

/-! ### What falls at an advance -/

/-- A thing that an advance may bring about (R3, R8): the completion of a group, a scan, and the reached points that the blocks have
handed to POS. -/
inductive Event where
  | group
  | scan
  | decision (tag : Nat)
  | begins (tag : Nat) (st : Station)
  | release (tag : Nat)
  | ends (tag : Nat) (st : Station)
  | front (tag : Nat)
  | tail (tag : Nat)
  | switch
  deriving DecidableEq, Repr

/-- The points of a record that lie at a position and have neither been delivered nor withdrawn (R43, R45, R50): they are read from the
record. -/
def Record.points (p : Line) (here : W32) (r : Record) : List Event :=
  match r.state with
  | .opened => decision ++ front
  | .pending => decision ++ front ++ tail
  | .routed => front ++ tail
  | .airborne => tail
  | .settled => []
where
  decision : List Event := if after r.f p.dDec = here then [.decision r.tag] else []
  front : List Event := if after r.f p.pHead = here then [.front r.tag] else []
  tail : List Event :=
    match r.closing with
    | some c => if after c.t p.pHead = here ∧ !r.tailGone then [.tail r.tag] else []
    | none => []

/-- The points of a claim's action that lie at a position (R102): they are read from the claim. -/
def Claim.points (here : W32) (st : Station) (c : Claim) : List Event :=
  (if c.start = here then [.begins c.owner st] else []) ++
  (if c.release = some here then [.release c.owner] else []) ++
  (if c.stop = here then [.ends c.owner st] else [])

/-- The points of the actions of a station that lie at the present position. -/
def State.stationPoints (s : State) (st : Station) : List Event :=
  ((s.arb.lists st).flatMap fun l => l.flatMap (Claim.points s.here st)).dedup

/-- Everything that falls at the advance to the present position. -/
def State.events (s : State) : List Event :=
  (if 64 ≤ s.pos.groupCount then [.group] else []) ++
  (if s.here.toNat % 4 = 0 then [.scan] else []) ++
  (s.tab.records.flatMap (Record.points s.line s.here)) ++
  s.stationPoints .m ++ s.stationPoints .e ++ s.stationPoints .a ++
  (if s.rcp.psw = some s.here then [.switch] else [])

/-- The orders that the manual fixes among things that fall together: a record's front departure before its tail departure (R47), an
action's start before its release and its end (R102). -/
def Event.before : Event → Event → Bool
  | .front t, .tail u => t == u
  | .begins t st, .ends u su => t == u && st == su
  | .begins t st, .release u => t == u && st == .m
  | .release t, .ends u su => t == u && su == .m
  | _, _ => false

/-- One thing comes about. A thing that has been withdrawn by another taken before it finds nothing to do. -/
def State.bringAbout (samples : Vector Sample 32) (e : Event) (s : State) : State :=
  match e with
  | .group => s.modPos (Pos.completeGroup s.line.t64Run)
  | .scan => s.scanBar samples
  | .decision tag => s.decisionPoint tag
  | .begins tag st => s.actionBegins tag st
  | .release tag => s.liftReleased tag
  | .ends tag st => s.actionEnds tag st
  | .front tag => s.frontDeparts tag
  | .tail tag => s.tailDeparts tag
  | .switch => s.switchPoint

/-- The things of a list that none of the others must come before. -/
def ripe (evs : List Event) : List Event := evs.filter fun e => !evs.any fun d => d.before e

/-- The things that fall together come about one after the other, in any order that the manual allows: each next one is picked by a free
value among those that are ripe. -/
def State.deliver (samples : Vector Sample 32) : Nat → List Event → State → State
  | 0, _, s => s
  | n + 1, evs, s =>
    match ripe evs with
    | [] => s
    | x :: xs =>
      let c := s.choose x xs
      State.deliver samples n (evs.erase c.1) (c.2.2.bringAbout samples c.1)

/-! ### The encoder -/

/-- What POS itself does at an advance (R3, R11, R12). -/
def Pos.step (stopMs : Nat) (p : Pos) : Pos :=
  { p with
    position := p.position + 1
    latestAdvance := p.time
    stopTimer := some (after p.time (stopMs * 1000))
    groupCount := p.groupCount + 1
    belt := if p.belt = .stopped then .creeping else p.belt }

/-- An advance (R3). -/
def State.advance (samples : Vector Sample 32) (s : State) : State :=
  let s1 := s.modPos (Pos.step s.line.stopMs)
  s1.deliver samples s1.events.length s1.events

/-- A forward count (R3). -/
def State.forwardCount (samples : Vector Sample 32) (s : State) : State :=
  if 0 < s.pos.backlash then s.modPos fun p => { p with backlash := p.backlash - 1 } else s.advance samples

/-- A reverse count (R4). -/
def State.reverseCount (s : State) : State :=
  if s.pos.backlash < s.line.backlashMax then s.modPos fun p => { p with backlash := p.backlash + 1 } else s.latch .reverse

/-- The place of a channel pair (ENC_A, ENC_B) in the forward order (0,0), (1,0), (1,1), (0,1) (R2). -/
def quarter : Bool → Bool → Nat
  | false, false => 0
  | true, false => 1
  | true, true => 2
  | false, true => 3

/-- The outcomes of the comparison of R2. -/
inductive Quad where
  | null
  | forward
  | illegal
  | reverse
  deriving DecidableEq, Repr

/-- The comparison of a sampled pair with the accepted pair (R2). -/
def quadOf (accA accB a b : Bool) : Quad :=
  match (quarter a b + 4 - quarter accA accB) % 4 with
  | 0 => .null
  | 1 => .forward
  | 2 => .illegal
  | _ => .reverse

/-- The glitch filter rejects an edge (R1). -/
def State.filtered (s : State) : Bool :=
  match s.pos.lastEdge with
  | some t => decide ((s.now - t).toNat < s.line.encFilter)
  | none => false

/-- An accepted edge (R1, R2). -/
def State.acceptEdge (samples : Vector Sample 32) (s : State) : State :=
  let a := s.inputs.encA
  let b := s.inputs.encB
  let s1 := s.modPos fun p => { p with lastEdge := some p.time, accA := a, accB := b }
  match quadOf s.pos.accA s.pos.accB a b with
  | .null => s1
  | .forward => s1.forwardCount samples
  | .illegal => s1.latch .encoder
  | .reverse => s1.reverseCount

/-- ENCODER_EDGE (R1): the channels stand at new levels, and the edge passes or fails the glitch filter. -/
def execEncoderEdge (a b : Bool) (coils : Vector Sample 32) (s : State) : Host.Outcome State Fault Refusal :=
  let s1 := s.modInputs fun i => { i with encA := a, encB := b }
  .next (if s1.filtered then s1 else s1.acceptEdge coils)

end Sys2Proof.Machine
end

