-- ==== Sys2Proof/Machine/Links.lean ====
section
/-! DEFINITION. The two links: the receivers, the queues, the rates, and the taking of requests (R65 to R67, R100, R163, R164). -/

namespace Sys2Proof.Machine

/-! ### One link of the two -/

def State.link (s : State) : Link → LinkState
  | .supervisor => s.slink
  | .classifier => s.clink

def State.modLink (l : Link) (f : LinkState → LinkState) (s : State) : State :=
  match l with
  | .supervisor => s.modSlink f
  | .classifier => s.modClink f

/-- The places of a link's receive queue (R65, R164). -/
def rxPlaces : Nat := 4

/-- The places of a link's transmit queue (R66, R164). -/
def txPlaces : Link → Nat
  | .supervisor => 4
  | .classifier => 32

/-! ### The receiver -/

/-- What a receiver makes of one byte: it goes on, it completes a well-formed frame, or it drops the frame with a cause (R163). -/
inductive RxResult where
  | taken
  | complete (f : Frame)
  | dropped (c : Cause)
  deriving DecidableEq, Repr

/-- A byte is taken in HUNT: an A5h is a SYNC (R163). -/
def Receiver.hunt (now : W32) (b : Byte) : Receiver :=
  { phase := if b = 0xA5#8 then .length else .hunt, len := 0, got := [], crcHigh := none, lastByte := now }

/-- KIND and BODY of the bytes that a receiver has kept. -/
def frameOf (got : List Byte) : Frame := { kind := got.headD 0, body := got.tail }

/-- A receiver takes one byte, with or without its stop bit (R163). -/
def Receiver.take (now : W32) (b : Byte) (stopBit : Bool) (r : Receiver) : Receiver × RxResult :=
  match r.phase with
  | .hunt => if stopBit then (Receiver.hunt now b, .taken) else (r, .taken)
  | .length =>
    if !stopBit then (Receiver.hunting now, .dropped .framing)
    else if 1 ≤ b.toNat ∧ b.toNat ≤ 64 then
      ({ phase := .body, len := b.toNat, got := [], crcHigh := none, lastByte := now }, .taken)
    else (Receiver.hunt now b, .dropped .length)
  | .body =>
    if !stopBit then (Receiver.hunting now, .dropped .framing)
    else
      ({ r with phase := if r.len ≤ r.got.length + 1 then .check else .body, got := r.got ++ [b], lastByte := now }, .taken)
  | .check =>
    if !stopBit then (Receiver.hunting now, .dropped .framing)
    else
      match r.crcHigh with
      | none => ({ r with crcHigh := some b, lastByte := now }, .taken)
      | some high =>
        if crc16 (BitVec.ofNat 8 r.len :: r.got) = high ++ b then (Receiver.hunting now, .complete (frameOf r.got))
        else (Receiver.hunting now, .dropped .crc)

/-- A new rate that waits for the end of the frame being received is applied (R100). -/
def LinkState.rxFrameOver (l : LinkState) : LinkState :=
  match l.rxRateDue with
  | some r => { l with rxRate := r, rxRateDue := none }
  | none => l

/-- A well-formed frame joins the receive queue, or is discarded with OVERRUN and LINK if the queue is full (R65, R164). -/
def State.frameArrives (l : Link) (f : Frame) (s : State) : State :=
  if (s.link l).rxQueue.length < rxPlaces then s.modLink l fun k => { k with rxQueue := k.rxQueue ++ [f] }
  else (s.latch .overrun).latchLink .overrun l

/-- What follows from a receiver's byte: nothing, a frame in the queue, or a drop that latches LINK (R163). -/
def State.rxResult (l : Link) (r : RxResult) (s : State) : State :=
  match r with
  | .taken => s
  | .complete f => (s.modLink l LinkState.rxFrameOver).frameArrives l f
  | .dropped c => (s.modLink l LinkState.rxFrameOver).latchLink c l

/-- A byte arrives at a link's receiver (R163). -/
def State.receiveByte (l : Link) (b : Byte) (stopBit : Bool) (s : State) : State :=
  let r := (s.link l).rx.take s.now b stopBit
  (s.modLink l fun k => { k with rx := r.1 }).rxResult l r.2

/-- FRAME_RECEIVED (R65, R163, R164): the byte that completes a well-formed frame. -/
def execFrameReceived (l : Link) (b : Byte) (stopBit : Bool) (s : State) : Host.Outcome State Fault Refusal :=
  .next (s.receiveByte l b stopBit)

/-- FRAME_DROPPED (R163): the byte that drops a frame. -/
def execFrameDropped (l : Link) (b : Byte) (stopBit : Bool) (s : State) : Host.Outcome State Fault Refusal :=
  .next (s.receiveByte l b stopBit)

/-- RECEIVER_BYTE_TAKEN (R163): a byte that neither completes nor drops a frame. -/
def execReceiverByteTaken (l : Link) (b : Byte) (stopBit : Bool) (s : State) : Host.Outcome State Fault Refusal :=
  .next (s.receiveByte l b stopBit)

/-- More than 2 ms have passed since the latest byte of a frame (R163): the first whole microsecond past 2,000. -/
def Receiver.gapOver (now : W32) (r : Receiver) : Bool := r.phase != .hunt && reached now (after r.lastByte 2001)

/-- FRAME_GAP_TIMEOUT (R163): the frame is dropped with cause GAP. -/
def execFrameGapTimeout (l : Link) (s : State) : Host.Outcome State Fault Refusal :=
  .next (if (s.link l).rx.gapOver s.now then
      (s.modLink l fun k => { k with rx := Receiver.hunting k.rx.lastByte }).rxResult l (.dropped .gap)
    else s)

/-! ### The transmitter -/

/-- A new rate for a receiver: at once in HUNT, else once the frame at hand is over (R100). -/
def LinkState.setRxRate (rate : Nat) (l : LinkState) : LinkState :=
  if l.rx.phase = .hunt then { l with rxRate := rate, rxRateDue := none } else { l with rxRateDue := some rate }

/-- A new rate for a transmitter: at once if it sends nothing, else once the frame it sends has been sent (R100). -/
def LinkState.setTxRate (rate : Nat) (l : LinkState) : LinkState :=
  if l.txQueue = [] then { l with txRate := rate, txRateDue := none } else { l with txRateDue := some rate }

/-- The rates once a frame has been sent (R100): a rate that waited for it, and the rate that the frame itself brings (a reply to a write
of SLINK_RATE). -/
def LinkState.txFrameOver (f : TxFrame) (l : LinkState) : LinkState :=
  let l1 :=
    match l.txRateDue with
    | some r => { l with txRate := r, txRateDue := none }
    | none => l
  match f.rateAfter with
  | some r => ({ l1 with txRate := r }).setRxRate r
  | none => l1

/-- The head frame of a transmit queue has been sent, and its place is freed (R67). -/
def LinkState.sent (l : LinkState) : LinkState :=
  match l.txQueue with
  | [] => l
  | f :: rest => ({ l with txQueue := rest }).txFrameOver f

/-- FRAME_SENT (R67). -/
def execFrameSent (l : Link) (s : State) : Host.Outcome State Fault Refusal := .next (s.modLink l LinkState.sent)

/-! ### Which row serves a request -/

/-- The row that serves a PARAM_WRITE, by the number written. A body of another length names no number, and is PARAM_WRITE's. -/
def paramWriteRow (body : List Byte) : Instr :=
  let n := halfAt body 0
  if body.length ≠ 7 then .paramWrite
  else if n = 0x001 then .stopMsWrite
  else if n = 0x002 then .t64RunWrite
  else if n = 0x003 then .backlashMaxWrite
  else if 0x010 ≤ n ∧ n ≤ 0x016 then .geometryWrite
  else if n = 0x024 then .heatMaxWrite
  else if n = 0x031 then .rotorMaxRpmWrite
  else if n = 0x035 then .rotorBandWrite
  else if n = 0x060 then .clinkRateWrite
  else if n = 0x061 then .slinkRateWrite
  else if 0x070 ≤ n ∧ n ≤ 0x077 then .auxFunctionWrite
  else if n = 0x078 then .alertMaskWrite
  else .paramWrite

/-- The row that serves a RECIPE request, by its sub-operation; a code that the layout does not define, or an empty body, is
RECIPE_STATUS's to refuse. -/
def recipeRow (body : List Byte) : Instr :=
  match body.map BitVec.toNat with
  | 0 :: _ => .recipeCopy
  | 1 :: _ => .recipeArm
  | 2 :: _ => .recipeDisarm
  | 3 :: _ => .recipeFree
  | 4 :: _ => .recipeSwitch
  | _ => .recipeStatus

/-- The row that serves a frame on the supervisor link, by its KIND (section 10.7). -/
def supervisorRow (f : Frame) : Instr :=
  match f.kind.toNat with
  | 0x20 => .paramRead
  | 0x21 => paramWriteRow f.body
  | 0x22 => .routeRead
  | 0x23 => .routeWrite
  | 0x24 => recipeRow f.body
  | 0x28 => .recordRead
  | 0x29 => .recordFind
  | 0x2A => .recordOverride
  | 0x2B => .recordCancel
  | 0x2C => .collect
  | 0x2D => .tableSummary
  | 0x30 => .totalsRead
  | 0x31 => .totalsClear
  | 0x34 => if byteAt f.body 1 = 1 then .stationSetOnline else .stationSetOffline
  | 0x35 => .stationStatus
  | 0x36 => .census
  | 0x38 => .status
  | 0x39 => .alertClear
  | 0x3C => .restart
  | 0x3D => .purge
  | _ => .badKindRequest .supervisor

/-- The row that serves a frame on the classifier link, by its KIND (R66). -/
def classifierRow (f : Frame) : Instr :=
  match f.kind.toNat with
  | 0x10 => .verdict
  | 0x11 => .verdictAt
  | 0x12 => .locate
  | _ => .badKindRequest .classifier

/-- The one row that serves a frame on a link. -/
def rowOf : Link → Frame → Instr
  | .supervisor, f => supervisorRow f
  | .classifier, f => classifierRow f

/-! ### Taking a request -/

/-- What serving a request answers: the status, the rest of the reply's body, and the rate that its sending brings, if any. -/
structure Reply where
  status    : Status
  rest      : List Byte
  rateAfter : Option Nat := none
  deriving DecidableEq, Repr

/-- The request at the head of a link's receive queue, if it can be taken: the transmit queue has a free place (R66, R164). -/
def State.request (s : State) (l : Link) : Option Frame :=
  if (s.link l).txQueue.length < txPlaces l then (s.link l).rxQueue.head? else none

/-- The reply as a frame: the request's KIND plus 80h, modulo 100h, and the status byte first (R164). -/
def Reply.frame (r : Reply) (f : Frame) : TxFrame :=
  { kind := f.kind + 0x80#8, body := r.status.code :: r.rest, rateAfter := r.rateAfter }

/-- A request is taken (R66, R164): it leaves the receive queue, it is served whole, and its reply joins the transmit queue. `serve` is
given the body. A request that another row serves is left where it stands. -/
def State.takeRequest (l : Link) (row : Instr) (serve : List Byte → State → State × Reply) (s : State) : State :=
  match s.request l with
  | none => s
  | some f =>
    if rowOf l f = row then
      let r := serve f.body (s.modLink l fun k => { k with rxQueue := k.rxQueue.tail })
      r.1.modLink l (LinkState.send (r.2.frame f))
    else s

/-- A body of the length its layout gives is served; any other is answered BAD_LEN with the status byte alone (R66, R164). -/
def ofLength (n : Nat) (serve : List Byte → State → State × Reply) (body : List Byte) (s : State) : State × Reply :=
  if body.length = n then serve body s else (s, { status := .badLen, rest := [] })

/-- BAD_KIND_REQUEST (R66, R164): the status byte alone, and nothing changes. -/
def execBadKindRequest (l : Link) (s : State) : Host.Outcome State Fault Refusal :=
  .next (s.takeRequest l (.badKindRequest l) fun _ s => (s, { status := .badKind, rest := [] }))

end Sys2Proof.Machine
end

