-- ==== Sys2Proof/Machine/Verdicts.lean ====
section
/-! DEFINITION. The requests of the classifier link (R69 to R73). -/

namespace Sys2Proof.Machine

/-- The rest of the reply to VERDICT and VERDICT_AT: tag, state after the request, amendment count; a record that is not there reports 255
and 0 (R69, R72, R164). -/
def verdictRest (tag : Nat) (r : Option Record) : List Byte :=
  le 2 tag ++ [stateByte (r.map (·.state))] ++ le 1 ((r.bind (·.verdict)).map (·.amend) |>.getD 0)

/-- A verdict is stored (R71): the last one wins, and the amendment count goes up, held at 255. -/
def Record.storeVerdict (code conf : Nat) (r : Record) : Record :=
  { r with
    verdict := some
      { code := code, conf := conf, source := .classifier, amend := min 255 ((r.verdict.map (·.amend)).getD 0 + 1) } }

/-- A record takes a verdict no longer: it is ROUTED, AIRBORNE or SETTLED (R69, R70). -/
def Record.tooLate (r : Record) : Bool := r.state == .routed || r.state == .airborne || r.state == .settled

/-- A verdict reaches a live record (R69 from its test of the state on, R70, R71). -/
def State.giveVerdict (r : Record) (code conf : Nat) (s : State) : State × Status :=
  if r.tooLate then
    (s.modRecord r.tag fun r => { r with flags := { r.flags with lateVerdict := true } }, .tooLate)
  else if 100 < conf then (s.modRecord r.tag (Record.storeVerdict code 100), .clamped)
  else (s.modRecord r.tag (Record.storeVerdict code conf), .ok)

/-- The reply to a verdict given to a live record. -/
def State.answerVerdict (r : Record) (code conf : Nat) (s : State) : State × Reply :=
  let a := s.giveVerdict r code conf
  (a.1, { status := a.2, rest := verdictRest r.tag (a.1.find r.tag) })

/-- VERDICT (tag, code, confidence), served (R69). -/
def serveVerdict (tag code conf : Nat) (s : State) : State × Reply :=
  if 13 < code then (s, { status := .badCode, rest := verdictRest tag (s.find tag) })
  else if tag = 0 then (s, { status := .badArg, rest := verdictRest 0 none })
  else
    match s.find tag with
    | none => (s, { status := .noSuch, rest := verdictRest tag none })
    | some r => s.answerVerdict r code conf

/-- VERDICT (R69). -/
def execVerdict (s : State) : Host.Outcome State Fault Refusal :=
  .next (s.takeRequest .classifier .verdict (ofLength 4 fun b => serveVerdict (halfAt b 0) (byteAt b 2) (byteAt b 3)))

/-- VERDICT_AT (bar position, coil, code, confidence), served (R72). -/
def serveVerdictAt (p coil code conf : Nat) (s : State) : State × Reply :=
  if 31 < coil then (s, { status := .badArg, rest := verdictRest 0 none })
  else if 13 < code then (s, { status := .badCode, rest := verdictRest 0 none })
  else
    match s.locate (BitVec.ofNat 32 p) coil with
    | none => (s, { status := .noSuch, rest := verdictRest 0 none })
    | some r => s.answerVerdict r code conf

/-- VERDICT_AT (R72). -/
def execVerdictAt (s : State) : Host.Outcome State Fault Refusal :=
  .next (s.takeRequest .classifier .verdictAt
    (ofLength 7 fun b => serveVerdictAt (wordAt b 0) (byteAt b 4) (byteAt b 5) (byteAt b 6)))

/-- The rest of the reply to LOCATE: tag, state, F. -/
def locateRest (r : Option Record) : List Byte :=
  le 2 ((r.map (·.tag)).getD 0) ++ [stateByte (r.map (·.state))] ++ le 4 ((r.map (·.f.toNat)).getD 0)

/-- LOCATE (bar position, coil), served (R73). -/
def serveLocate (p coil : Nat) (s : State) : State × Reply :=
  if 31 < coil then (s, { status := .badArg, rest := locateRest none })
  else
    match s.locate (BitVec.ofNat 32 p) coil with
    | none => (s, { status := .noSuch, rest := locateRest none })
    | some r => (s, { status := .ok, rest := locateRest (some r) })

/-- LOCATE (R73). -/
def execLocate (s : State) : Host.Outcome State Fault Refusal :=
  .next (s.takeRequest .classifier .locate (ofLength 5 fun b => serveLocate (wordAt b 0) (byteAt b 4)))

end Sys2Proof.Machine
end

