-- ==== Sys2Proof/Machine/Recipes.lean ====
section
/-! DEFINITION. The recipe store's requests: route entries, and the copying, arming, freeing and switching of slots (R76, R87 to R94). -/

namespace Sys2Proof.Machine

/-- The recipe slot that a field names; a number above 2 names none. -/
def slotOf (n : Nat) : Option (Fin 3) := if h : n < 3 then some ⟨n, h⟩ else none

/-! ### Writing a slot -/

/-- A slot takes writes: it is neither ACTIVE nor DRAINING (R87). -/
def Slot.writable (k : Slot) : Bool := k.state != .active && k.state != .draining

/-- A write is made to a slot (R87): its content changes, it becomes EDIT, and a switch pending for an ARMED slot is cancelled. -/
def State.writeSlot (k : Fin 3) (f : Recipe → Recipe) (s : State) : State :=
  s.modRcp fun r =>
    { r with
      slots := r.slots.set k { r.slots[k] with state := .edit, recipe := f r.slots[k].recipe }
      psw := if r.slots[k].state = .armed then none else r.psw }

/-! ### Route entries -/

/-- The place that a row and a column name (R76): a signature row with a column 0..15, or the overlength row with column 0. -/
def placeOf (row column : Nat) : Option (Fin 5 × Column) :=
  if h : row < 5 then
    if column < 16 then some (⟨row, h⟩, .col (Fin.ofNat 16 column)) else none
  else if row = 5 ∧ column = 0 then some (0, .overlength)
  else none

/-- Write one entry of a recipe. -/
def Recipe.setEntry (r : Recipe) (row : Fin 5) (c : Column) (e : RouteEntry) : Recipe :=
  match c with
  | .col n => { r with rows := r.rows.set row (r.rows[row].set n e) }
  | .overlength => { r with overlength := e }

/-- The rest of the reply to ROUTE_READ and ROUTE_WRITE: slot, row, column, entry held. -/
def routeRest (slot row column entry : Nat) : List Byte := le 1 slot ++ le 1 row ++ le 1 column ++ le 2 entry

/-- ROUTE_READ (recipe slot, row, column), served (R76). -/
def serveRouteRead (slot row column : Nat) (s : State) : State × Reply :=
  match slotOf slot, placeOf row column with
  | some k, some (i, c) => (s, { status := .ok, rest := routeRest slot row column (s.rcp.slots[k].recipe.entry i c).code })
  | _, _ => (s, { status := .badArg, rest := routeRest slot row column 0 })

/-- ROUTE_READ (R76). -/
def execRouteRead (s : State) : Host.Outcome State Fault Refusal :=
  .next (s.takeRequest .supervisor .routeRead
    (ofLength 3 fun b => serveRouteRead (byteAt b 0) (byteAt b 1) (byteAt b 2)))

/-- The entry that a valid one is written as, and the reply: a priority above 7 is written as 7 (R75). -/
def checkEntry (bits : Nat) : Option (RouteEntry × Status) :=
  match routeOf bits with
  | some e =>
    if e.valid then
      if 7 < e.priority then some ({ e with priority := 7 }, .clamped) else some (e, .ok)
    else none
  | none => none

/-- ROUTE_WRITE (recipe slot, row, column, entry), served (R75, R76, R87). -/
def serveRouteWrite (slot row column bits : Nat) (s : State) : State × Reply :=
  match slotOf slot, placeOf row column with
  | some k, some (i, c) =>
    let held := (s.rcp.slots[k].recipe.entry i c).code
    if !s.rcp.slots[k].writable then (s, { status := .inUse, rest := routeRest slot row column held })
    else
      match checkEntry bits with
      | none => (s, { status := .badRoute, rest := routeRest slot row column held })
      | some (e, status) =>
        (s.writeSlot k fun r => r.setEntry i c e, { status := status, rest := routeRest slot row column e.code })
  | _, _ => (s, { status := .badArg, rest := routeRest slot row column 0 })

/-- ROUTE_WRITE (R76). -/
def execRouteWrite (s : State) : Host.Outcome State Fault Refusal :=
  .next (s.takeRequest .supervisor .routeWrite
    (ofLength 5 fun b => serveRouteWrite (byteAt b 0) (byteAt b 1) (byteAt b 2) (halfAt b 3)))

/-! ### The RECIPE request -/

/-- The rest of the reply to RECIPE: the recipe store as it stands (R94, section 10.7). -/
def State.recipeRest (s : State) : List Byte :=
  [s.rcp.slots[0].state.code, s.rcp.slots[1].state.code, s.rcp.slots[2].state.code] ++
  le 2 s.rcp.slots[0].refs ++ le 2 s.rcp.slots[1].refs ++ le 2 s.rcp.slots[2].refs ++
  le 1 ((s.slotIn .armed).map (·.val) |>.getD 255) ++
  [flagByte s.rcp.psw.isSome] ++ le 4 ((s.rcp.psw.map BitVec.toNat).getD 0)

/-- A RECIPE reply shows the store after the request. -/
def recipeReply (s : State) (status : Status) : State × Reply := (s, { status := status, rest := s.recipeRest })

/-- RECIPE COPY (from, to), served (R88). -/
def serveRecipeCopy (source dest : Nat) (s : State) : State × Reply :=
  match slotOf source, slotOf dest with
  | some a, some b =>
    if s.rcp.slots[b].state = .free ∨ s.rcp.slots[b].state = .edit then
      recipeReply (s.modSlot b fun k => { k with state := .edit, recipe := s.rcp.slots[a].recipe }) .ok
    else recipeReply s .inUse
  | _, _ => recipeReply s .badArg

/-- RECIPE_COPY (R88). -/
def execRecipeCopy (s : State) : Host.Outcome State Fault Refusal :=
  .next (s.takeRequest .supervisor .recipeCopy (ofLength 7 fun b => serveRecipeCopy (byteAt b 1) (byteAt b 2)))

/-- RECIPE ARM (slot), served (R89). -/
def serveRecipeArm (slot : Nat) (s : State) : State × Reply :=
  match slotOf slot with
  | none => recipeReply s .badArg
  | some k =>
    match s.rcp.slots[k].state with
    | .edit =>
      if (s.slotIn .armed).isSome then recipeReply s .busy
      else recipeReply (s.modSlot k fun c => { c with state := .armed }) .ok
    | .armed => recipeReply s .ok
    | _ => recipeReply s .conflict

/-- RECIPE_ARM (R89). -/
def execRecipeArm (s : State) : Host.Outcome State Fault Refusal :=
  .next (s.takeRequest .supervisor .recipeArm (ofLength 7 fun b => serveRecipeArm (byteAt b 1)))

/-- RECIPE DISARM (slot), served (R89). -/
def serveRecipeDisarm (slot : Nat) (s : State) : State × Reply :=
  match slotOf slot with
  | none => recipeReply s .badArg
  | some k =>
    match s.rcp.slots[k].state with
    | .armed => recipeReply ((s.modSlot k fun c => { c with state := .edit }).modRcp fun r => { r with psw := none }) .ok
    | .edit => recipeReply s .ok
    | _ => recipeReply s .conflict

/-- RECIPE_DISARM (R89). -/
def execRecipeDisarm (s : State) : Host.Outcome State Fault Refusal :=
  .next (s.takeRequest .supervisor .recipeDisarm (ofLength 7 fun b => serveRecipeDisarm (byteAt b 1)))

/-- RECIPE FREE (slot), served (R90). -/
def serveRecipeFree (slot : Nat) (s : State) : State × Reply :=
  match slotOf slot with
  | none => recipeReply s .badArg
  | some k =>
    match s.rcp.slots[k].state with
    | .edit => recipeReply (s.modSlot k fun _ => Slot.freed s.line.rotorMaxRpm) .ok
    | .armed =>
      if s.rcp.psw.isSome then recipeReply s .busy
      else recipeReply (s.modSlot k fun _ => Slot.freed s.line.rotorMaxRpm) .ok
    | .free => recipeReply s .ok
    | _ => recipeReply s .inUse

/-- RECIPE_FREE (R90). -/
def execRecipeFree (s : State) : Host.Outcome State Fault Refusal :=
  .next (s.takeRequest .supervisor .recipeFree (ofLength 7 fun b => serveRecipeFree (byteAt b 1)))

/-- The largest offset of a switch (R91). -/
def maxOffset : Nat := 1048576

/-- RECIPE SWITCH (offset), served (R91): an offset of 0 takes effect before the reply is formed. -/
def serveRecipeSwitch (offset : Nat) (s : State) : State × Reply :=
  if (s.slotIn .armed).isNone then recipeReply s .conflict
  else if (s.slotIn .draining).isSome then recipeReply s .busy
  else if s.rcp.psw.isSome then recipeReply s .busy
  else
    let s1 := s.modRcp fun r => { r with psw := some (after s.here (min maxOffset offset)) }
    recipeReply (if offset = 0 then s1.switchTakesEffect else s1) (if maxOffset < offset then .clamped else .ok)

/-- RECIPE_SWITCH (R91). -/
def execRecipeSwitch (s : State) : Host.Outcome State Fault Refusal :=
  .next (s.takeRequest .supervisor .recipeSwitch (ofLength 7 fun b => serveRecipeSwitch (wordAt b 3)))

/-- RECIPE STATUS, served (R94); an undefined sub-operation is answered BAD_ARG (R164). -/
def serveRecipeStatus (sub : Nat) (s : State) : State × Reply := recipeReply s (if sub = 5 then .ok else .badArg)

/-- RECIPE_STATUS (R94). -/
def execRecipeStatus (s : State) : Host.Outcome State Fault Refusal :=
  .next (s.takeRequest .supervisor .recipeStatus (ofLength 7 fun b => serveRecipeStatus (byteAt b 0)))

end Sys2Proof.Machine
end

