-- ==== Sys2Proof/Machine/Params.lean ====
section
/-! DEFINITION. Parameters and measurements by number: the tables of section 5.7, the range checks, bonds and constraints of R96 to R99,
and what each written parameter does at once (R4, R13, R100, R131, R137, R148, R168, R169). -/

namespace Sys2Proof.Machine

/-! ### The tables of section 5.7 -/

/-- The line-wide parameters that are plain numbers: all but the aux functions and ALERT_MASK. -/
inductive LineParam where
  | encFilter
  | stopMs
  | t64Run
  | backlashMax
  | dDec
  | pMag
  | magLen
  | pHead
  | dAir
  | land
  | lMax
  | locateTol
  | magRiseMs
  | magFallMs
  | dutyNorm
  | dutyHot
  | heatMax
  | flapTravelMs
  | rotorMaxRpm
  | tachPpr
  | spinupMs
  | econHoldMs
  | rotorBand
  | valveLat
  | pulseMin
  | pulseMax
  | jetGap
  | censusWaitMs
  | clinkRate
  | slinkRate
  | sightEn
  deriving DecidableEq, Repr

/-- The parameter that a number names. -/
def lineParamOf : Nat → Option LineParam
  | 0x000 => some .encFilter
  | 0x001 => some .stopMs
  | 0x002 => some .t64Run
  | 0x003 => some .backlashMax
  | 0x010 => some .dDec
  | 0x011 => some .pMag
  | 0x012 => some .magLen
  | 0x013 => some .pHead
  | 0x014 => some .dAir
  | 0x015 => some .land
  | 0x016 => some .lMax
  | 0x017 => some .locateTol
  | 0x020 => some .magRiseMs
  | 0x021 => some .magFallMs
  | 0x022 => some .dutyNorm
  | 0x023 => some .dutyHot
  | 0x024 => some .heatMax
  | 0x030 => some .flapTravelMs
  | 0x031 => some .rotorMaxRpm
  | 0x032 => some .tachPpr
  | 0x033 => some .spinupMs
  | 0x034 => some .econHoldMs
  | 0x035 => some .rotorBand
  | 0x040 => some .valveLat
  | 0x041 => some .pulseMin
  | 0x042 => some .pulseMax
  | 0x043 => some .jetGap
  | 0x050 => some .censusWaitMs
  | 0x060 => some .clinkRate
  | 0x061 => some .slinkRate
  | 0x062 => some .sightEn
  | _ => none

/-- The range of a parameter. -/
def LineParam.range : LineParam → Nat × Nat
  | .encFilter => (0, 15)
  | .stopMs => (50, 2000)
  | .t64Run => (4000, 262143)
  | .backlashMax => (16, 4096)
  | .dDec => (256, 65535)
  | .pMag => (512, 131071)
  | .magLen => (64, 4095)
  | .pHead => (1024, 262143)
  | .dAir => (0, 4095)
  | .land => (0, 4095)
  | .lMax => (64, 8192)
  | .locateTol => (0, 255)
  | .magRiseMs => (1, 100)
  | .magFallMs => (1, 200)
  | .dutyNorm => (5, 95)
  | .dutyHot => (5, 95)
  | .heatMax => (1000, 600000)
  | .flapTravelMs => (10, 1000)
  | .rotorMaxRpm => (500, 6000)
  | .tachPpr => (1, 64)
  | .spinupMs => (100, 30000)
  | .econHoldMs => (1000, 600000)
  | .rotorBand => (1, 10)
  | .valveLat => (0, 20000)
  | .pulseMin => (500, 10000)
  | .pulseMax => (2000, 100000)
  | .jetGap => (0, 10000)
  | .censusWaitMs => (10, 5000)
  | .clinkRate => (0, 3)
  | .slinkRate => (0, 3)
  | .sightEn => (0, 1)

/-- The value that a parameter holds. -/
def LineParam.get (l : Line) : LineParam → Nat
  | .encFilter => l.encFilter
  | .stopMs => l.stopMs
  | .t64Run => l.t64Run
  | .backlashMax => l.backlashMax
  | .dDec => l.dDec
  | .pMag => l.pMag
  | .magLen => l.magLen
  | .pHead => l.pHead
  | .dAir => l.dAir
  | .land => l.land
  | .lMax => l.lMax
  | .locateTol => l.locateTol
  | .magRiseMs => l.magRiseMs
  | .magFallMs => l.magFallMs
  | .dutyNorm => l.dutyNorm
  | .dutyHot => l.dutyHot
  | .heatMax => l.heatMax
  | .flapTravelMs => l.flapTravelMs
  | .rotorMaxRpm => l.rotorMaxRpm
  | .tachPpr => l.tachPpr
  | .spinupMs => l.spinupMs
  | .econHoldMs => l.econHoldMs
  | .rotorBand => l.rotorBand
  | .valveLat => l.valveLat
  | .pulseMin => l.pulseMin
  | .pulseMax => l.pulseMax
  | .jetGap => l.jetGap
  | .censusWaitMs => l.censusWaitMs
  | .clinkRate => l.clinkRate
  | .slinkRate => l.slinkRate
  | .sightEn => l.sightEn

/-- Write a parameter. -/
def LineParam.set (v : Nat) (l : Line) : LineParam → Line
  | .encFilter => { l with encFilter := v }
  | .stopMs => { l with stopMs := v }
  | .t64Run => { l with t64Run := v }
  | .backlashMax => { l with backlashMax := v }
  | .dDec => { l with dDec := v }
  | .pMag => { l with pMag := v }
  | .magLen => { l with magLen := v }
  | .pHead => { l with pHead := v }
  | .dAir => { l with dAir := v }
  | .land => { l with land := v }
  | .lMax => { l with lMax := v }
  | .locateTol => { l with locateTol := v }
  | .magRiseMs => { l with magRiseMs := v }
  | .magFallMs => { l with magFallMs := v }
  | .dutyNorm => { l with dutyNorm := v }
  | .dutyHot => { l with dutyHot := v }
  | .heatMax => { l with heatMax := v }
  | .flapTravelMs => { l with flapTravelMs := v }
  | .rotorMaxRpm => { l with rotorMaxRpm := v }
  | .tachPpr => { l with tachPpr := v }
  | .spinupMs => { l with spinupMs := v }
  | .econHoldMs => { l with econHoldMs := v }
  | .rotorBand => { l with rotorBand := v }
  | .valveLat => { l with valveLat := v }
  | .pulseMin => { l with pulseMin := v }
  | .pulseMax => { l with pulseMax := v }
  | .jetGap => { l with jetGap := v }
  | .censusWaitMs => { l with censusWaitMs := v }
  | .clinkRate => { l with clinkRate := v }
  | .slinkRate => { l with slinkRate := v }
  | .sightEn => { l with sightEn := v }

/-- The per-recipe parameters. -/
inductive RecipeParam where
  | tOn
  | tOff
  | tMix
  | gapScans
  | fLo
  | fHi
  | sLo
  | sHi
  | nLo
  | nHi
  | confMin
  | nozMargin
  | padUs
  | runRpm
  | idleRpm
  | econEn
  deriving DecidableEq, Repr

/-- The per-recipe parameter that a number names. -/
def recipeParamOf : Nat → Option RecipeParam
  | 0x100 => some .tOn
  | 0x101 => some .tOff
  | 0x102 => some .tMix
  | 0x103 => some .gapScans
  | 0x104 => some .fLo
  | 0x105 => some .fHi
  | 0x106 => some .sLo
  | 0x107 => some .sHi
  | 0x108 => some .nLo
  | 0x109 => some .nHi
  | 0x10A => some .confMin
  | 0x110 => some .nozMargin
  | 0x111 => some .padUs
  | 0x112 => some .runRpm
  | 0x113 => some .idleRpm
  | 0x114 => some .econEn
  | _ => none

/-- The range of a per-recipe parameter. The upper ends of the two speeds are ROTOR_MAX_RPM and the ROTOR_RUN_RPM of the same slot. -/
def RecipeParam.range (rotorMax : Nat) (p : RecipeParams) : RecipeParam → Nat × Nat
  | .tOn => (1, 4095)
  | .tOff => (0, 4094)
  | .tMix => (1, 4095)
  | .gapScans => (1, 16)
  | .fLo => (0, 255)
  | .fHi => (0, 255)
  | .sLo => (0, 255)
  | .sHi => (0, 255)
  | .nLo => (0, 255)
  | .nHi => (0, 255)
  | .confMin => (0, 100)
  | .nozMargin => (0, 4)
  | .padUs => (0, 20000)
  | .runRpm => (500, rotorMax)
  | .idleRpm => (0, p.runRpm)
  | .econEn => (0, 1)

/-- The value that a per-recipe parameter holds. -/
def RecipeParam.get (p : RecipeParams) : RecipeParam → Nat
  | .tOn => p.tOn
  | .tOff => p.tOff
  | .tMix => p.tMix
  | .gapScans => p.gapScans
  | .fLo => p.fLo
  | .fHi => p.fHi
  | .sLo => p.sLo
  | .sHi => p.sHi
  | .nLo => p.nLo
  | .nHi => p.nHi
  | .confMin => p.confMin
  | .nozMargin => p.nozMargin
  | .padUs => p.padUs
  | .runRpm => p.runRpm
  | .idleRpm => p.idleRpm
  | .econEn => p.econEn

/-- Write a per-recipe parameter. -/
def RecipeParam.set (v : Nat) (p : RecipeParams) : RecipeParam → RecipeParams
  | .tOn => { p with tOn := v }
  | .tOff => { p with tOff := v }
  | .tMix => { p with tMix := v }
  | .gapScans => { p with gapScans := v }
  | .fLo => { p with fLo := v }
  | .fHi => { p with fHi := v }
  | .sLo => { p with sLo := v }
  | .sHi => { p with sHi := v }
  | .nLo => { p with nLo := v }
  | .nHi => { p with nHi := v }
  | .confMin => { p with confMin := v }
  | .nozMargin => { p with nozMargin := v }
  | .padUs => { p with padUs := v }
  | .runRpm => { p with runRpm := v }
  | .idleRpm => { p with idleRpm := v }
  | .econEn => { p with econEn := v }

/-! ### Replies -/

/-- The reply to PARAM_READ and PARAM_WRITE: number, slot, value (R97). -/
def paramReply (number slot value : Nat) (status : Status) (rateAfter : Option Nat := none) : Reply :=
  { status := status, rest := le 2 number ++ le 1 slot ++ le 4 value, rateAfter := rateAfter }

/-- The status of a write that was made (R97): CLAMPED if the value was changed on the way. -/
def writeStatus (clamped : Bool) : Status := if clamped then .clamped else .ok

/-- The range check (R97): below the range the low end, above it the high end. -/
def holdIn (range : Nat × Nat) (v : Nat) : Nat := min range.2 (max range.1 v)

/-! ### Measurements -/

/-- The measurements of R96. -/
def State.measure (s : State) (number : Nat) : Option Nat :=
  if number = 0x200 then some s.pos.position.toNat
  else if number = 0x201 then some s.pos.time.toNat
  else if number = 0x202 then some s.pos.t64
  else if number = 0x203 then some s.pos.belt.code.toNat
  else if number = 0x204 then some s.ecs.speed
  else if number = 0x205 then some s.ecs.rotor.code.toNat
  else if 0x208 ≤ number ∧ number ≤ 0x20F then some s.mag.segments[Fin.ofNat 8 (number - 0x208)].heat
  else if number = 0x210 then some s.tab.records.length
  else if number = 0x211 then some s.tab.tagCounter
  else if number = 0x212 then some s.pos.backlash
  else none

/-- The five ranges of R96. -/
inductive Category where
  | lineWide
  | superseded
  | perRecipe
  | measurement
  | unknown
  deriving DecidableEq, Repr

/-- The range that a number lies in (R96). -/
def categoryOf (number : Nat) : Category :=
  if number ≤ 0x07F then .lineWide
  else if number ≤ 0x0FF then .superseded
  else if number ≤ 0x17F then .perRecipe
  else if 0x200 ≤ number ∧ number ≤ 0x23F then .measurement
  else .unknown

/-- The value of a line-wide number (section 5.7). -/
def State.lineValue (s : State) (number : Nat) : Option Nat :=
  match lineParamOf number with
  | some p => some (p.get s.line)
  | none =>
    if 0x070 ≤ number ∧ number ≤ 0x077 then some s.line.auxFn[Fin.ofNat 8 (number - 0x070)]
    else if number = 0x078 then some s.line.alertMask.toNat
    else none

/-- PARAM_READ (number, slot), served (R96). -/
def serveParamRead (number slot : Nat) (s : State) : State × Reply :=
  match categoryOf number with
  | .lineWide =>
    match s.lineValue number with
    | some v => (s, paramReply number slot v .ok)
    | none => (s, paramReply number slot 0 .badParam)
  | .superseded => (s, paramReply number slot 0 .ok)
  | .perRecipe =>
    match recipeParamOf number with
    | none => (s, paramReply number slot 0 .badParam)
    | some p =>
      match slotOf slot with
      | none => (s, paramReply number slot 0 .badArg)
      | some k => (s, paramReply number slot (p.get s.rcp.slots[k].recipe.params) .ok)
  | .measurement =>
    match s.measure number with
    | some v => (s, paramReply number slot v .ok)
    | none => (s, paramReply number slot 0 .badParam)
  | .unknown => (s, paramReply number slot 0 .badParam)

/-- PARAM_READ (R96). -/
def execParamRead (s : State) : Host.Outcome State Fault Refusal :=
  .next (s.takeRequest .supervisor .paramRead (ofLength 3 fun b => serveParamRead (halfAt b 0) (byteAt b 2)))

/-! ### Line-wide writes -/

/-- The value that a write of a line-wide parameter stores: the range check, and then the bond of PULSE_MIN and PULSE_MAX and the
rounding of L_MAX (R97, R98). -/
def Line.store (l : Line) (p : LineParam) (v : Nat) : Nat :=
  let w := holdIn p.range v
  match p with
  | .pulseMin => min w l.pulseMax
  | .pulseMax => max w l.pulseMin
  | .lMax => w - w % 4
  | _ => w

/-- A write of a line-wide parameter is made (R97, R100). -/
def State.storeLine (p : LineParam) (v : Nat) (s : State) : State := s.modLine fun l => p.set (l.store p v) l

/-- The reply to a write that was made: the value that the parameter holds, CLAMPED if it is not the one written (R97, R98). -/
def lineReply (number slot : Nat) (p : LineParam) (v : Nat) (s : State) (rateAfter : Option Nat := none) : State × Reply :=
  (s, paramReply number slot (p.get s.line) (writeStatus (p.get s.line != v)) rateAfter)

/-! ### Per-recipe writes -/

/-- The parameters after a write of one of them, and the value stored: the range check and the bonds of R98. -/
def RecipeParams.store (rotorMax : Nat) (q : RecipeParams) (p : RecipeParam) (v : Nat) : RecipeParams :=
  let w := holdIn (p.range rotorMax q) v
  match p with
  | .tOff => { q with tOff := min w (q.tOn - 1) }
  | .tOn => { q with tOn := w, tOff := min q.tOff (w - 1) }
  | .runRpm => { q with runRpm := w, idleRpm := min q.idleRpm w }
  | _ => p.set w q

/-- A write is CLAMPED where the value stored is not the one written, or a second parameter was lowered (R97, R98). -/
def RecipeParams.clamped (before after' : RecipeParams) (p : RecipeParam) (v : Nat) : Bool :=
  p.get after' != v ||
    (p == .tOn && after'.tOff != before.tOff) || (p == .runRpm && after'.idleRpm != before.idleRpm)

/-- A write of a per-recipe number (R87, R96, R97, R98). -/
def servePerRecipe (number slot v : Nat) (s : State) : State × Reply :=
  match recipeParamOf number with
  | none => (s, paramReply number slot 0 .badParam)
  | some p =>
    match slotOf slot with
    | none => (s, paramReply number slot 0 .badArg)
    | some k =>
      let q := s.rcp.slots[k].recipe.params
      if s.rcp.slots[k].writable then
        let q' := q.store s.line.rotorMaxRpm p v
        (s.writeSlot k fun r => { r with params := q' },
          paramReply number slot (p.get q') (writeStatus (q.clamped q' p v)))
      else (s, paramReply number slot (p.get q) .inUse)

/-! ### PARAM_WRITE and its rows -/

/-- PARAM_WRITE (number, slot, value), served, for every number that has no row of its own (R96, R97, R98). -/
def serveParamWrite (number slot v : Nat) (s : State) : State × Reply :=
  match categoryOf number with
  | .lineWide =>
    match lineParamOf number with
    | some p => lineReply number slot p v (s.storeLine p v)
    | none => (s, paramReply number slot 0 .badParam)
  | .superseded => (s, paramReply number slot 0 .ok)
  | .perRecipe => servePerRecipe number slot v s
  | .measurement =>
    match s.measure number with
    | some _ => (s, paramReply number slot 0 .readOnly)
    | none => (s, paramReply number slot 0 .badParam)
  | .unknown => (s, paramReply number slot 0 .badParam)

/-- A PARAM_WRITE of a number with a row of its own is taken: number, slot and value are the body's. -/
def State.takeWrite (row : Instr) (serve : Nat → Nat → Nat → State → State × Reply) (s : State) : State :=
  s.takeRequest .supervisor row (ofLength 7 fun b => serve (halfAt b 0) (byteAt b 2) (wordAt b 3))

/-- PARAM_WRITE (R97). -/
def execParamWrite (s : State) : Host.Outcome State Fault Refusal := .next (s.takeWrite .paramWrite serveParamWrite)

/-- A new STOP_MS moves the pending stop timer, and the belt stops at once if that time is reached (R13). -/
def Pos.newStopMs (stopMs : Nat) (p : Pos) : Pos :=
  match p.stopTimer with
  | none => p
  | some _ =>
    let t := after p.latestAdvance (stopMs * 1000)
    if reached p.time t then p.stop else { p with stopTimer := some t }

/-- STOP_MS, written (R13, R97). -/
def serveStopMs (number slot v : Nat) (s : State) : State × Reply :=
  let s1 := s.storeLine .stopMs v
  lineReply number slot .stopMs v (s1.modPos (Pos.newStopMs s1.line.stopMs))

/-- STOP_MS_WRITE (R13). -/
def execStopMsWrite (s : State) : Host.Outcome State Fault Refusal := .next (s.takeWrite .stopMsWrite serveStopMs)

/-- A CREEPING or RUNNING belt state is evaluated again (R13). -/
def Pos.newT64Run (t64Run : Nat) (p : Pos) : Pos :=
  { p with belt := if p.belt = .stopped then .stopped else beltReading p.t64 t64Run }

/-- T64_RUN, written (R13, R97). -/
def serveT64Run (number slot v : Nat) (s : State) : State × Reply :=
  let s1 := s.storeLine .t64Run v
  lineReply number slot .t64Run v (s1.modPos (Pos.newT64Run s1.line.t64Run))

/-- T64_RUN_WRITE (R13). -/
def execT64RunWrite (s : State) : Host.Outcome State Fault Refusal := .next (s.takeWrite .t64RunWrite serveT64Run)

/-- BACKLASH_MAX, written (R4, R97): the backlash count stays. -/
def serveBacklashMax (number slot v : Nat) (s : State) : State × Reply :=
  lineReply number slot .backlashMax v (s.storeLine .backlashMax v)

/-- BACKLASH_MAX_WRITE (R4). -/
def execBacklashMaxWrite (s : State) : Host.Outcome State Fault Refusal :=
  .next (s.takeWrite .backlashMaxWrite serveBacklashMax)

/-- The three constraints of the line (R99). -/
def Line.sound (l : Line) : Bool :=
  decide (l.lMax + 64 ≤ l.dDec ∧ l.dDec + 512 ≤ l.pMag ∧ l.pMag + l.magLen + 256 ≤ l.pHead)

/-- A geometry parameter, written (R99): BUSY while a record is live, CONFLICT where a constraint would fail. -/
def serveGeometry (number slot v : Nat) (s : State) : State × Reply :=
  match lineParamOf number with
  | none => (s, paramReply number slot 0 .badParam)
  | some p =>
    if s.tab.records ≠ [] then (s, paramReply number slot (p.get s.line) .busy)
    else
      let s1 := s.storeLine p v
      if s1.line.sound then lineReply number slot p v s1 else (s, paramReply number slot (p.get s.line) .conflict)

/-- GEOMETRY_WRITE (R99). -/
def execGeometryWrite (s : State) : Host.Outcome State Fault Refusal := .next (s.takeWrite .geometryWrite serveGeometry)

/-- HEAT_MAX, written (R97, R131). -/
def serveHeatMax (number slot v : Nat) (s : State) : State × Reply :=
  lineReply number slot .heatMax v (s.storeLine .heatMax v).heatMaxWritten

/-- HEAT_MAX_WRITE (R131). -/
def execHeatMaxWrite (s : State) : Host.Outcome State Fault Refusal := .next (s.takeWrite .heatMaxWrite serveHeatMax)

/-- The run speed of some slot that is not FREE lies above a new maximum (R98). -/
def State.runsAbove (s : State) (rotorMax : Nat) : Bool :=
  s.rcp.slots.toList.any fun k => k.state != .free && decide (rotorMax < k.recipe.params.runRpm)

/-- The two rotor values of a FREE slot follow ROTOR_MAX_RPM (R85). -/
def State.freeSlotsFollow (s : State) : State :=
  s.modRcp fun r =>
    { r with
      slots := r.slots.mapIdx fun _ k =>
        if k.state = .free then { k with recipe := Recipe.default r.line.rotorMaxRpm } else k }

/-- ROTOR_MAX_RPM, written (R97, R98, R137): refused below a run speed; else the duty follows, and the demand is evaluated. -/
def serveRotorMax (number slot v : Nat) (s : State) : State × Reply :=
  if s.runsAbove (holdIn LineParam.rotorMaxRpm.range v) then (s, paramReply number slot s.line.rotorMaxRpm .conflict)
  else lineReply number slot .rotorMaxRpm v ((s.storeLine .rotorMaxRpm v).freeSlotsFollow).evalDemand

/-- ROTOR_MAX_RPM_WRITE (R98). -/
def execRotorMaxRpmWrite (s : State) : Host.Outcome State Fault Refusal :=
  .next (s.takeWrite .rotorMaxRpmWrite serveRotorMax)

/-- ROTOR_BAND, written (R97, R148): the rotor state is evaluated at once. -/
def serveRotorBand (number slot v : Nat) (s : State) : State × Reply :=
  lineReply number slot .rotorBand v (s.storeLine .rotorBand v).evalRotor

/-- ROTOR_BAND_WRITE (R148). -/
def execRotorBandWrite (s : State) : Host.Outcome State Fault Refusal := .next (s.takeWrite .rotorBandWrite serveRotorBand)

/-- SLINK_RATE, written (R97, R100): the new rate applies once the reply has been sent. -/
def serveSlinkRate (number slot v : Nat) (s : State) : State × Reply :=
  let s1 := s.storeLine .slinkRate v
  lineReply number slot .slinkRate v s1 (some s1.line.slinkRate)

/-- SLINK_RATE_WRITE (R100). -/
def execSlinkRateWrite (s : State) : Host.Outcome State Fault Refusal := .next (s.takeWrite .slinkRateWrite serveSlinkRate)

/-- CLINK_RATE, written (R97, R100): each direction of the classifier link changes at its own moment. -/
def serveClinkRate (number slot v : Nat) (s : State) : State × Reply :=
  let s1 := s.storeLine .clinkRate v
  lineReply number slot .clinkRate v
    (s1.modClink fun l => (l.setTxRate s1.line.clinkRate).setRxRate s1.line.clinkRate)

/-- CLINK_RATE_WRITE (R100). -/
def execClinkRateWrite (s : State) : Host.Outcome State Fault Refusal := .next (s.takeWrite .clinkRateWrite serveClinkRate)

/-- ALERT_MASK, written (R97, R168): its ten members are kept, and what lies beyond them is dropped. -/
def serveAlertMask (number slot v : Nat) (s : State) : State × Reply :=
  (s.modLine fun l => { l with alertMask := BitVec.ofNat 10 v },
    paramReply number slot (v % 1024) (writeStatus (v % 1024 != v)))

/-- ALERT_MASK_WRITE (R168). -/
def execAlertMaskWrite (s : State) : Host.Outcome State Fault Refusal := .next (s.takeWrite .alertMaskWrite serveAlertMask)

/-- An aux function, written (R97, R128, R169): the terminal follows at once, and the OR of the MAG_HOT terminals is seen again. -/
def serveAuxFunction (number slot v : Nat) (s : State) : State × Reply :=
  let w := holdIn (0, 4) v
  ((s.modLine fun l => { l with auxFn := l.auxFn.set (Fin.ofNat 8 (number - 0x070)) w }).seeHot,
    paramReply number slot w (writeStatus (w != v)))

/-- AUX_FUNCTION_WRITE (R169). -/
def execAuxFunctionWrite (s : State) : Host.Outcome State Fault Refusal :=
  .next (s.takeWrite .auxFunctionWrite serveAuxFunction)

end Sys2Proof.Machine
end

