-- ==== Sys2Proof/Machine/Records.lean ====
section
/-! DEFINITION. The supervisor's requests for records, the table and the totals (R52, R53, R55, R58, R63, R64, R80, R81). -/

namespace Sys2Proof.Machine

/-- A reply that carries a record, or 40 zeros (section 10.7). -/
def recordReply (status : Status) (r : Option Record) : Reply := { status := status, rest := recordBytes r }

/-- RECORD_READ (tag), served (R53). -/
def serveRecordRead (tag : Nat) (s : State) : State × Reply :=
  if tag = 0 then (s, recordReply .badArg none)
  else
    match s.find tag with
    | none => (s, recordReply .noSuch none)
    | some r => (s, recordReply .ok (some r))

/-- RECORD_READ (R53). -/
def execRecordRead (s : State) : Host.Outcome State Fault Refusal :=
  .next (s.takeRequest .supervisor .recordRead (ofLength 2 fun b => serveRecordRead (halfAt b 0)))

/-- RECORD_FIND (bar position, coil), served (R55). -/
def serveRecordFind (p coil : Nat) (s : State) : State × Reply :=
  if 31 < coil then (s, recordReply .badArg none)
  else
    match s.locate (BitVec.ofNat 32 p) coil with
    | none => (s, recordReply .noSuch none)
    | some r => (s, recordReply .ok (some r))

/-- RECORD_FIND (R55). -/
def execRecordFind (s : State) : Host.Outcome State Fault Refusal :=
  .next (s.takeRequest .supervisor .recordFind (ofLength 5 fun b => serveRecordFind (wordAt b 0) (byteAt b 4)))

/-- The reply to RECORD_OVERRIDE: the tag, and the record's state after the request (R80). -/
def overrideReply (s : State) (tag : Nat) (status : Status) : State × Reply :=
  (s, { status := status, rest := le 2 tag ++ [stateByte ((s.find tag).map (·.state))] })

/-- A claim of an action has begun, as its outcome tells (R80): ACTING, DONE, BREACHED, CUT or DENIED(THERMAL). -/
def Result.hasBegun : Result → Bool
  | .acting => true
  | .done => true
  | .breached => true
  | .cut _ => true
  | .denied r => r == .thermal
  | _ => false

/-- Any claim of a record has begun (R80). -/
def Record.anyBegun (r : Record) : Bool := r.outcome.m.hasBegun || r.outcome.e.hasBegun || r.outcome.a.hasBegun

/-- The entry is stored as the forced route of an OPEN or PENDING record (R80). -/
def State.forceRoute (tag : Nat) (e : RouteEntry) (s : State) : State :=
  s.modRecord tag fun r => { r with forced := some e, flags := { r.flags with overridden := true } }

/-- RECORD_OVERRIDE (tag, entry), served (R80, R81). -/
def serveRecordOverride (tag bits : Nat) (s : State) : State × Reply :=
  if tag = 0 then (s, { status := .badArg, rest := le 2 0 ++ [stateByte none] })
  else
    match checkEntry bits with
    | none => overrideReply s tag .badRoute
    | some (e, status) =>
      match s.find tag with
      | none => overrideReply s tag .noSuch
      | some r =>
        match r.state with
        | .airborne => overrideReply s tag .tooLate
        | .settled => overrideReply s tag .tooLate
        | .routed => if r.anyBegun then overrideReply s tag .inAction else overrideReply (s.replaceRoute tag e) tag status
        | .opened => overrideReply (s.forceRoute tag e) tag status
        | .pending => overrideReply (s.forceRoute tag e) tag status

/-- RECORD_OVERRIDE (R80). -/
def execRecordOverride (s : State) : Host.Outcome State Fault Refusal :=
  .next (s.takeRequest .supervisor .recordOverride
    (ofLength 4 fun b => serveRecordOverride (halfAt b 0) (halfAt b 2)))

/-- The tracker bound to a tag becomes a shadow that counts nothing (R38). -/
def State.shadowTracker (tag : Nat) (s : State) : State :=
  s.modSeg fun g =>
    { g with trackers := g.trackers.map fun t => if t.kind = .bound tag then { t with kind := .shadow false } else t }

/-- A record is cancelled (R58, R117, R157): claims and pulses are withdrawn, the tracker of an OPEN record becomes a shadow, and the
record is retired and counted CANCELLED. -/
def State.cancelRecord (r : Record) (s : State) : State :=
  ((((((s.withdrawAll r.tag).closeLanding r.tag).withdrawPulses r.tag).shadowTracker r.tag).retire r).modTotals fun t =>
    { t with cancelled := countUp 1 t.cancelled })

/-- A record is in action: a claim BEGUN or a pulse open (R58). -/
def State.inAction (s : State) (tag : Nat) : Bool :=
  s.hasBegun tag .m || s.hasBegun tag .e || s.hasBegun tag .a || s.hasOpenPulse tag

/-- The reply to RECORD_CANCEL: the tag that the request names. R58 does not say what the field holds in a refused reply; that NO_SUCH and
the other refusals echo the tag as well is a choice (DESIGN CHOICE, assumption log entry 9). -/
def cancelReply (s : State) (tag : Nat) (status : Status) : State × Reply := (s, { status := status, rest := le 2 tag })

/-- RECORD_CANCEL (tag), served (R58). -/
def serveRecordCancel (tag : Nat) (s : State) : State × Reply :=
  if tag = 0 then cancelReply s tag .badArg
  else
    match s.find tag with
    | none => cancelReply s tag .noSuch
    | some r =>
      if r.state = .settled then cancelReply s tag .tooLate
      else if (r.state = .routed ∨ r.state = .airborne) ∧ s.inAction tag then cancelReply s tag .inAction
      else cancelReply (s.cancelRecord r) tag .ok

/-- RECORD_CANCEL (R58). -/
def execRecordCancel (s : State) : Host.Outcome State Fault Refusal :=
  .next (s.takeRequest .supervisor .recordCancel (ofLength 2 fun b => serveRecordCancel (halfAt b 0)))

/-- COLLECT, served (R52): the record at the head of the settled queue is returned and retired. -/
def serveCollect (s : State) : State × Reply :=
  match s.tab.queue with
  | [] => (s, recordReply .noSuch none)
  | tag :: _ =>
    match s.find tag with
    | none => (s, recordReply .noSuch none)
    | some r => (s.retire r, recordReply .ok (some r))

/-- COLLECT (R52). -/
def execCollect (s : State) : Host.Outcome State Fault Refusal :=
  .next (s.takeRequest .supervisor .collect (ofLength 0 fun _ => serveCollect))

/-- The number of live records in a state. -/
def State.countIn (s : State) (st : RecState) : Nat := (s.tab.records.filter fun r => r.state == st).length

/-- The rest of the reply to TABLE_SUMMARY (R64). -/
def State.summary (s : State) : List Byte :=
  le 2 (s.countIn .opened) ++ le 2 (s.countIn .pending) ++ le 2 (s.countIn .routed) ++ le 2 (s.countIn .airborne) ++
  le 2 (s.countIn .settled) ++ le 2 (256 - s.tab.records.length) ++
  le 1 (s.seg.trackers.filter (·.isBound)).length ++ le 1 (s.seg.trackers.filter fun t => !t.isBound).length ++
  le 2 s.tab.queue.length

/-- TABLE_SUMMARY (R64). -/
def execTableSummary (s : State) : Host.Outcome State Fault Refusal :=
  .next (s.takeRequest .supervisor .tableSummary
    (ofLength 0 fun _ s => (s, { status := .ok, rest := s.summary })))

/-- The rest of the reply to TOTALS_READ (R63, section 10.7). -/
def Totals.bytes (t : Totals) : List Byte :=
  le 4 t.ferrous ++ le 4 t.nonferrous ++ le 4 t.eject ++ le 4 t.residue ++ le 4 t.diverted ++ le 4 t.cancelled ++ le 4 t.untracked

/-- TOTALS_READ (R63). -/
def execTotalsRead (s : State) : Host.Outcome State Fault Refusal :=
  .next (s.takeRequest .supervisor .totalsRead
    (ofLength 0 fun _ s => (s, { status := .ok, rest := s.tab.totals.bytes })))

/-- TOTALS_CLEAR (R63). -/
def execTotalsClear (s : State) : Host.Outcome State Fault Refusal :=
  .next (s.takeRequest .supervisor .totalsClear
    (ofLength 0 fun _ s => (s.modTotals fun _ => Totals.zero, { status := .ok, rest := [] })))

end Sys2Proof.Machine
end

