-- ==== Sys2Proof/Machine/Supervisor.lean ====
section
/-! DEFINITION. The supervisor's requests to LSIG, the reading of the status, PURGE, RESTART and the hard reset (R59, R60, R166, R168,
R170 to R172). -/

namespace Sys2Proof.Machine

/-! ### Stations -/

/-- The station states M, E, A (section 10.7). -/
def State.stationBytes (s : State) : List Byte := [(s.avail .m).code, (s.avail .e).code, (s.avail .a).code]

/-- A reply that carries the station states as they stand after the request (R166). -/
def stationReply (s : State) (status : Status) : State × Reply := (s, { status := status, rest := s.stationBytes })

/-- STATION_SET (station, OFFLINE), served (R165, R166). -/
def serveStationOffline (station command : Nat) (s : State) : State × Reply :=
  match stationOf station with
  | none => stationReply s .badArg
  | some st => if command = 0 then stationReply (s.goAll [st] .offline none .offline) .ok else stationReply s .badArg

/-- STATION_SET_OFFLINE (R166). -/
def execStationSetOffline (s : State) : Host.Outcome State Fault Refusal :=
  .next (s.takeRequest .supervisor .stationSetOffline
    (ofLength 2 fun b => serveStationOffline (byteAt b 0) (byteAt b 1)))

/-- STATION_SET (station, ONLINE), served (R165, R166). An unknown station is BAD_ARG under E-stop too: R164 and R166 give that test and
BUSY no order (DESIGN CHOICE, assumption log entry 9). -/
def serveStationOnline (station : Nat) (s : State) : State × Reply :=
  match stationOf station with
  | none => stationReply s .badArg
  | some st => if s.lsig.estop then stationReply s .busy else stationReply (s.censusOf [st]) .ok

/-- STATION_SET_ONLINE (R166). -/
def execStationSetOnline (s : State) : Host.Outcome State Fault Refusal :=
  .next (s.takeRequest .supervisor .stationSetOnline (ofLength 2 fun b => serveStationOnline (byteAt b 0)))

/-- State and acted flag of each station (R166). -/
def State.actedBytes (s : State) : List Byte :=
  [(s.avail .m).code, flagByte s.lsig.stations.m.acted, (s.avail .e).code, flagByte s.lsig.stations.e.acted,
    (s.avail .a).code, flagByte s.lsig.stations.a.acted]

/-- The three acted flags are cleared (R166, R171). -/
def State.clearActed (s : State) : State :=
  ((s.modStation .m fun i => { i with acted := false }).modStation .e fun i => { i with acted := false }).modStation .a fun i =>
    { i with acted := false }

/-- STATION_STATUS (R166): the states and flags, and then the flags are cleared. -/
def execStationStatus (s : State) : Host.Outcome State Fault Refusal :=
  .next (s.takeRequest .supervisor .stationStatus
    (ofLength 0 fun _ s => (s.clearActed, { status := .ok, rest := s.actedBytes })))

/-- CENSUS, served (R166). -/
def serveCensus (s : State) : State × Reply :=
  if s.lsig.estop then stationReply s .busy else stationReply (s.censusOf allStations) .ok

/-- CENSUS (R166). -/
def execCensus (s : State) : Host.Outcome State Fault Refusal :=
  .next (s.takeRequest .supervisor .census (ofLength 0 fun _ => serveCensus))

/-! ### Status and alerts -/

/-- A set of coils or of segments as bits: number k stands at bit k, which section 10.7 leaves open (DESIGN CHOICE, assumption log entry
14). -/
def bitsOf (marks : List Bool) : Nat := marks.foldr (fun b n => (if b then 1 else 0) + 2 * n) 0

/-- The rest of the reply to STATUS (R170, section 10.7). -/
def State.statusBytes (s : State) : List Byte :=
  le 4 s.pos.position.toNat ++ le 3 s.pos.t64 ++ [s.pos.belt.code, flagByte s.lsig.estop, flagByte (decide (s.scan.settling < 64))] ++
  le 4 (bitsOf (s.scan.coils.toList.map (·.faulted))) ++ le 1 (bitsOf (s.mag.segments.toList.map (·.cooling))) ++
  [s.ecs.rotor.code, s.ecs.demandKind.code, flagByte s.ecs.economy.isSome] ++ s.stationBytes ++
  le 2 s.lsig.alerts.toNat ++ [causeByte s.lsig.linkCause]

/-- STATUS (R170). -/
def execStatus (s : State) : Host.Outcome State Fault Refusal :=
  .next (s.takeRequest .supervisor .status
    (ofLength 0 fun _ s => (s, { status := .ok, rest := s.statusBytes })))

/-- ALERT_CLEAR (set), served (R168). -/
def serveAlertClear (set : Nat) (s : State) : State × Reply :=
  let s1 := s.clearAlerts (BitVec.ofNat 10 set)
  (s1, { status := .ok, rest := le 2 s1.lsig.alerts.toNat })

/-- ALERT_CLEAR (R168). -/
def execAlertClear (s : State) : Host.Outcome State Fault Refusal :=
  .next (s.takeRequest .supervisor .alertClear (ofLength 2 fun b => serveAlertClear (halfAt b 0)))

/-! ### PURGE -/

/-- Every bound tracker becomes a shadow that counts nothing (R38). -/
def Seg.purge (g : Seg) : Seg :=
  { g with trackers := g.trackers.map fun t => if t.isBound then { t with kind := .shadow false } else t }

/-- The table at PURGE (R59): every record is retired, and each that is not SETTLED is counted CANCELLED. -/
def Table.purge (t : Table) : Table :=
  { t with
    records := []
    queue := []
    totals := { t.totals with cancelled := countUp (t.records.filter fun r => r.state != .settled).length t.totals.cancelled } }

/-- A recipe slot at PURGE (R59, R101): no record carries it, and a DRAINING slot is FREE. -/
def Slot.purge (rotorMax : Nat) (k : Slot) : Slot :=
  if k.state = .draining then Slot.freed rotorMax else { k with refs := 0 }

/-- The need set is emptied; if that is a change, the economy timer starts (R149). -/
def State.purgeNeed (s : State) : State :=
  if s.ecs.need = [] then s else (s.modEcs fun e => { e with need := [] }).startEconomy.evalDemand

/-- PURGE, in every block (R38, R59, R101, R117, R134, R149, R161). -/
def State.purge (s : State) : State :=
  ((((((((s.modSeg Seg.purge).modTab Table.purge).modRcp fun r =>
    { r with slots := r.slots.mapIdx fun _ k => k.purge r.line.rotorMaxRpm }).modArb fun _ => Arb.reset).magnetReleases).closeAllLanding).dropPulses).purgeNeed)

/-- PURGE (R59). -/
def execPurge (s : State) : Host.Outcome State Fault Refusal :=
  .next (s.takeRequest .supervisor .purge
    (ofLength 0 fun _ s => (s.purge, { status := .ok, rest := [] })))

/-! ### RESTART and the hard reset -/

/-- POS at RESTART (R18). The completion time and the latest advance time, which R18 names neither among what is set nor among what is
left, are kept (DESIGN CHOICE, assumption log entry 14). -/
def Pos.restart (p : Pos) : Pos :=
  { p with
    position := 0, backlash := 0, groupCount := 0, completionsSeen := 0, t64 := 1048575, belt := .stopped, stopTimer := none }

/-- SCAN at RESTART (R25): K is kept, to be loaded at the first scan of settling. -/
def Scan.restart (b : Scan) : Scan :=
  { coils := b.coils.mapIdx fun _ c => { c with active := false, stuck := 0, faulted := false }, settling := 0 }

/-- ECS at RESTART, but for the demand (R149): the timer stops, and the OK watches are withdrawn. -/
def State.ecsRestarts (s : State) : State :=
  s.modEcs fun e => { e with economy := none, driveWatch := none, flapWatch := none }

/-- What RESTART gives in each block, after PURGE and before LSIG's own part (R18, R25, R39, R60, R68, R101, R134, R149, R161). -/
def State.restartBlocks (s : State) : State :=
  ((((((((s.modPos Pos.restart).modScan Scan.restart).modSeg fun _ => Seg.reset).modTab fun t => { t with tagCounter := 1 }).modRcp
    fun r => { r with psw := none }).modClink fun l => { l with rxQueue := [] }).magnetRestarts).ecsRestarts).modJet fun j =>
      { j with okWatch := none }

/-- LSIG at RESTART (R171): latches, link cause, acted flags and switch mark are cleared. -/
def State.lsigRestarts (s : State) : State :=
  (s.clearActed).modLsig fun l => { l with alerts := 0, linkCause := none, switchMark := none }

/-- RESTART (R171): PURGE, then each block's own part, then LSIG's, and a census of all three stations unless E-stop is asserted. -/
def State.restart (s : State) : State :=
  let s1 := s.purge.restartBlocks.lsigRestarts.evalDemand
  if s1.lsig.estop then s1 else s1.censusOf allStations

/-- RESTART (R171). -/
def execRestart (s : State) : Host.Outcome State Fault Refusal :=
  .next (s.takeRequest .supervisor .restart
    (ofLength 0 fun _ s => (s.restart, { status := .ok, rest := [] })))

/-- HARD_RESET (R172): every block at its hard-reset value, and at the release a census of all three stations. The commands that wait
are outside the part, and the model's draws go on. -/
def execHardReset (levels : Inputs) (s : State) : Host.Outcome State Fault Refusal :=
  .next ((State.blank levels s.draws s.pending).censusOf allStations)

end Sys2Proof.Machine
end

