-- ==== Sys2Proof/Machine/Outputs.lean ====
section
/-! DEFINITION. The output terminals (section 10.8), each a function of the state: an output changes at the event that changes the state
it shows (R120, R137, R138, R143, R151, R165, R168, R169). -/

namespace Sys2Proof.Machine

/-- MAG_DRV0..7: asserted while the segment is RISING or ON (R120). -/
def State.magDrv (s : State) (k : Fin 8) : Bool := s.mag.segments[k].driven

/-- FLAP_DRV0..3: asserted while the flap is commanded near (R143). -/
def State.flapDrv (s : State) (k : Fin 4) : Bool := s.ecs.flaps[k].position.near

/-- JET_DRV0..63: asserted while the nozzle's list holds an OPEN pulse (R151). -/
def State.jetDrv (s : State) (n : Fin 64) : Bool := s.jet.pulses[n].any (·.isOpen)

/-- ROTOR_DMD: the duty in parts per thousand (R137). -/
def State.rotorDuty (s : State) : Nat := s.ecs.demandValue * 1000 / s.line.rotorMaxRpm

/-- MAG_EN, ECS_EN and JET_EN: asserted while the station is INTERROGATING or READY (R165). -/
def State.enable (s : State) (st : Station) : Bool := s.avail st == .interrogating || s.avail st == .ready

/-- AT_SPEED: the rotor state is RUN (R138). -/
def State.atSpeed (s : State) : Bool := s.ecs.rotor == .run

/-- SWITCH_MARK: asserted until its time is reached (R169). -/
def State.switchMark (s : State) : Bool := s.lsig.switchMark.isSome

/-- AUX0..AUX7: the level that the part drives, or none while the terminal is not driven (R169). -/
def State.auxDrive (s : State) (k : Fin 8) : Option Bool :=
  match s.line.auxFn[k] with
  | 2 => some s.alertOut
  | 3 => some s.switchMark
  | 4 => some s.atSpeed
  | _ => none

/-- CL_TX and SV_TX: the bytes of the frame that the link is sending, the head of its transmit queue (R67, section 10.1). -/
def State.sending (s : State) (l : Link) : List Byte :=
  match (s.link l).txQueue with
  | [] => []
  | f :: _ => frameBytes f.kind f.body

end Sys2Proof.Machine
end

