-- ==== Sys2Proof/Machine/Dispatch.lean ====
section
/-! DEFINITION. The dispatch: one arm per command, each one direct call of the command's meaning. -/

namespace Sys2Proof.Machine

def exec (i : Instr) (s : State) : Host.Outcome State Fault Refusal :=
  match i with
  | .encoderEdge a b coils => Sys2Proof.Machine.execEncoderEdge a b coils s
  | .stopTimerExpiry => Sys2Proof.Machine.execStopTimerExpiry s
  | .segmentCompletion k => Sys2Proof.Machine.execSegmentCompletion k s
  | .heatStep => Sys2Proof.Machine.execHeatStep s
  | .hotInputChange levels => Sys2Proof.Machine.execHotInputChange levels s
  | .hotDebounceExpiry => Sys2Proof.Machine.execHotDebounceExpiry s
  | .magOkChange level => Sys2Proof.Machine.execMagOkChange level s
  | .magOkWatchExpiry => Sys2Proof.Machine.execMagOkWatchExpiry s
  | .tachEdge => Sys2Proof.Machine.execTachEdge s
  | .tachTimeout => Sys2Proof.Machine.execTachTimeout s
  | .economyTimerExpiry => Sys2Proof.Machine.execEconomyTimerExpiry s
  | .spinUpWatchExpiry => Sys2Proof.Machine.execSpinUpWatchExpiry s
  | .stallWatchExpiry => Sys2Proof.Machine.execStallWatchExpiry s
  | .flapCompletion k => Sys2Proof.Machine.execFlapCompletion k s
  | .ecsOkChange drive flap => Sys2Proof.Machine.execEcsOkChange drive flap s
  | .ecsOkWatchExpiry which => Sys2Proof.Machine.execEcsOkWatchExpiry which s
  | .pulseOpen n => Sys2Proof.Machine.execPulseOpen n s
  | .pulseClose n => Sys2Proof.Machine.execPulseClose n s
  | .jetOkChange level => Sys2Proof.Machine.execJetOkChange level s
  | .jetOkWatchExpiry => Sys2Proof.Machine.execJetOkWatchExpiry s
  | .censusWaitExpiry st => Sys2Proof.Machine.execCensusWaitExpiry st s
  | .estopInputChange level => Sys2Proof.Machine.execEstopInputChange level s
  | .estopAsserted => Sys2Proof.Machine.execEstopAsserted s
  | .estopReleased => Sys2Proof.Machine.execEstopReleased s
  | .switchMarkEnd => Sys2Proof.Machine.execSwitchMarkEnd s
  | .hardReset levels => Sys2Proof.Machine.execHardReset levels s
  | .frameReceived l b stopBit => Sys2Proof.Machine.execFrameReceived l b stopBit s
  | .frameDropped l b stopBit => Sys2Proof.Machine.execFrameDropped l b stopBit s
  | .frameGapTimeout l => Sys2Proof.Machine.execFrameGapTimeout l s
  | .frameSent l => Sys2Proof.Machine.execFrameSent l s
  | .verdict => Sys2Proof.Machine.execVerdict s
  | .verdictAt => Sys2Proof.Machine.execVerdictAt s
  | .locate => Sys2Proof.Machine.execLocate s
  | .paramRead => Sys2Proof.Machine.execParamRead s
  | .paramWrite => Sys2Proof.Machine.execParamWrite s
  | .stopMsWrite => Sys2Proof.Machine.execStopMsWrite s
  | .t64RunWrite => Sys2Proof.Machine.execT64RunWrite s
  | .backlashMaxWrite => Sys2Proof.Machine.execBacklashMaxWrite s
  | .geometryWrite => Sys2Proof.Machine.execGeometryWrite s
  | .heatMaxWrite => Sys2Proof.Machine.execHeatMaxWrite s
  | .rotorMaxRpmWrite => Sys2Proof.Machine.execRotorMaxRpmWrite s
  | .rotorBandWrite => Sys2Proof.Machine.execRotorBandWrite s
  | .slinkRateWrite => Sys2Proof.Machine.execSlinkRateWrite s
  | .clinkRateWrite => Sys2Proof.Machine.execClinkRateWrite s
  | .alertMaskWrite => Sys2Proof.Machine.execAlertMaskWrite s
  | .auxFunctionWrite => Sys2Proof.Machine.execAuxFunctionWrite s
  | .routeRead => Sys2Proof.Machine.execRouteRead s
  | .routeWrite => Sys2Proof.Machine.execRouteWrite s
  | .recipeCopy => Sys2Proof.Machine.execRecipeCopy s
  | .recipeArm => Sys2Proof.Machine.execRecipeArm s
  | .recipeDisarm => Sys2Proof.Machine.execRecipeDisarm s
  | .recipeFree => Sys2Proof.Machine.execRecipeFree s
  | .recipeSwitch => Sys2Proof.Machine.execRecipeSwitch s
  | .recipeStatus => Sys2Proof.Machine.execRecipeStatus s
  | .recordRead => Sys2Proof.Machine.execRecordRead s
  | .recordFind => Sys2Proof.Machine.execRecordFind s
  | .recordOverride => Sys2Proof.Machine.execRecordOverride s
  | .recordCancel => Sys2Proof.Machine.execRecordCancel s
  | .collect => Sys2Proof.Machine.execCollect s
  | .tableSummary => Sys2Proof.Machine.execTableSummary s
  | .totalsRead => Sys2Proof.Machine.execTotalsRead s
  | .totalsClear => Sys2Proof.Machine.execTotalsClear s
  | .stationSetOffline => Sys2Proof.Machine.execStationSetOffline s
  | .stationSetOnline => Sys2Proof.Machine.execStationSetOnline s
  | .stationStatus => Sys2Proof.Machine.execStationStatus s
  | .census => Sys2Proof.Machine.execCensus s
  | .status => Sys2Proof.Machine.execStatus s
  | .alertClear => Sys2Proof.Machine.execAlertClear s
  | .purge => Sys2Proof.Machine.execPurge s
  | .restart => Sys2Proof.Machine.execRestart s
  | .receiverByteTaken l b stopBit => Sys2Proof.Machine.execReceiverByteTaken l b stopBit s
  | .badKindRequest l => Sys2Proof.Machine.execBadKindRequest l s

end Sys2Proof.Machine
end

