-- ==== Sys2Proof/Machine/Internal.lean ====
section
/-! DEFINITION. What the part does by itself: the events whose time it has reached, the requests it can take, and the passing of a
microsecond (R6, R9, R66, R127, R164). -/

namespace Sys2Proof.Machine

/-- A command, if a condition holds. -/
def whenever (b : Bool) (c : Instr) : List Instr := if b then [c] else []

/-- The watched times that are reached (R9): of POS, MAG, ECS and LSIG, and of the receivers. -/
def State.dueTimes (s : State) : List Instr :=
  let now := s.now
  whenever (due now s.pos.stopTimer) .stopTimerExpiry ++
  (List.finRange 8).flatMap (fun k => whenever (due now s.mag.segments[k].completion) (.segmentCompletion k)) ++
  whenever s.mag.heatDue .heatStep ++
  whenever (due now s.mag.hotDebounce) .hotDebounceExpiry ++
  whenever (due now s.mag.okWatch) .magOkWatchExpiry ++
  whenever (due now s.ecs.tachTimeout) .tachTimeout ++
  whenever (due now s.ecs.economy) .economyTimerExpiry ++
  whenever (due now s.ecs.spinUp) .spinUpWatchExpiry ++
  whenever (due now s.ecs.stall) .stallWatchExpiry ++
  (List.finRange 4).flatMap (fun k => whenever (due now s.ecs.flaps[k].completion) (.flapCompletion k)) ++
  whenever (due now s.ecs.driveWatch) (.ecsOkWatchExpiry .drive) ++
  whenever (due now s.ecs.flapWatch) (.ecsOkWatchExpiry .flap) ++
  whenever (due now s.jet.okWatch) .jetOkWatchExpiry ++
  allStations.flatMap (fun st =>
    whenever (s.avail st == .interrogating && due now (s.lsig.stations.get st).wait) (.censusWaitExpiry st)) ++
  whenever (due now s.lsig.estopFilter && s.inputs.estop) .estopAsserted ++
  whenever (due now s.lsig.estopFilter && !s.inputs.estop) .estopReleased ++
  whenever (due now s.lsig.switchMark) .switchMarkEnd ++
  whenever (s.slink.rx.gapOver now) (.frameGapTimeout .supervisor) ++
  whenever (s.clink.rx.gapOver now) (.frameGapTimeout .classifier)

/-- The open and close times of the pulses that are reached (R155, R156). -/
def State.duePulses (s : State) : List Instr :=
  (List.finRange 64).flatMap fun n =>
    whenever (s.jet.pulses[n].any fun p => !p.isOpen && reached s.now p.openAt) (.pulseOpen n) ++
    whenever (s.jet.pulses[n].any fun p => p.isOpen && reached s.now p.closeAt) (.pulseClose n)

/-- The request at the head of a link's queue that can be taken, by the row that serves it (R66, R164). -/
def State.dueRequest (s : State) (l : Link) : List Instr :=
  match s.request l with
  | some f => [rowOf l f]
  | none => []

/-- Everything that the part itself has due. -/
def State.internal (s : State) : List Instr :=
  s.dueTimes ++ s.duePulses ++ s.dueRequest .classifier ++ s.dueRequest .supervisor

/-- One microsecond passes (R6); at a multiple of 1,000 a heat step falls due (R127). -/
def State.tick (s : State) : State :=
  let s1 := s.modPos fun p => { p with time := p.time + 1 }
  s1.modMag fun m => { m with heatDue := m.heatDue || decide (s1.now.toNat % 1000 = 0) }

end Sys2Proof.Machine
end

