-- ==== Sys2Proof/Machine/Step.lean ====
section
/-! DEFINITION. One step of the part: the command at the front of the queue, or, with none waiting, what the part does by itself. -/

namespace Sys2Proof.Machine

/-- One step (assumption log entry 1). A waiting command is taken from the front of the queue and executed. With none waiting, one of the
events that the part itself has due is executed; with none due, one microsecond passes. -/
def step (s : State) : Host.Outcome State Fault Refusal :=
  match s.pending with
  | c :: rest => exec c { s with pending := rest }
  | [] =>
    match s.internal with
    | [] => .next s.tick
    | x :: xs =>
      let c := s.choose x xs
      exec c.1 c.2.2

/-- The command that a word spells is put at the front of the queue; no row of the table gives bits, so no word spells one. -/
def State.withFetchWord (s : State) (nbits w : Nat) : State :=
  match decodeTableWord nbits w with
  | some c => { s with pending := c :: s.pending }
  | none => s

end Sys2Proof.Machine
end

