-- ==== Sys2Proof/Safety.lean ====
section
/-! DEFINITION. The terms in which claims about the part are made: the blocks that a command may reach, a request that waits on a link
and its reply, and the invariants of the state. -/

namespace Sys2Proof.Machine

/-! ### The blocks that a command reaches -/

/-- The pieces that the state falls into, finer than the blocks of section 2.1 where a rule lets a command reach only a part of one. -/
inductive Block where
  | inputs
  | pos
  | scan
  | seg
  | tab
  | line
  | slots
  | psw
  | arb
  | mag
  | ecs
  | jet
  | stations
  | estop
  | alerts
  | switchMark
  | slink
  | clink
  | draws
  | pending
  deriving DecidableEq, Repr

/-- Two states agree on a block. -/
def Block.Same : Block → State → State → Prop
  | .inputs, s, t => t.inputs = s.inputs
  | .pos, s, t => t.pos = s.pos
  | .scan, s, t => t.scan = s.scan
  | .seg, s, t => t.seg = s.seg
  | .tab, s, t => t.tab = s.tab
  | .line, s, t => t.rcp.line = s.rcp.line
  | .slots, s, t => t.rcp.slots = s.rcp.slots
  | .psw, s, t => t.rcp.psw = s.rcp.psw
  | .arb, s, t => t.arb = s.arb
  | .mag, s, t => t.mag = s.mag
  | .ecs, s, t => t.ecs = s.ecs
  | .jet, s, t => t.jet = s.jet
  | .stations, s, t => t.lsig.stations = s.lsig.stations
  | .estop, s, t => t.lsig.estop = s.lsig.estop ∧ t.lsig.estopFilter = s.lsig.estopFilter
  | .alerts, s, t => t.lsig.alerts = s.lsig.alerts ∧ t.lsig.linkCause = s.lsig.linkCause
  | .switchMark, s, t => t.lsig.switchMark = s.lsig.switchMark
  | .slink, s, t => t.slink = s.slink
  | .clink, s, t => t.clink = s.clink
  | .draws, s, t => t.draws = s.draws
  | .pending, s, t => t.pending = s.pending

/-- `t` differs from `s` at most in the blocks of a list. -/
def Within (bs : List Block) (s t : State) : Prop := ∀ b, b ∉ bs → b.Same s t

/-- The block of a link. -/
def linkBlock : Link → Block
  | .supervisor => .slink
  | .classifier => .clink

/-- What a station's leaving READY may reach (R116, R133, R147, R159): the records, the claims, the station blocks, and the draws of an
order that the manual leaves open. -/
def leavingBlocks : List Block := [.stations, .tab, .arb, .mag, .ecs, .jet, .draws]

/-- The blocks that a command may reach: what its own rule changes, with what follows within it (chapter 95). No command reaches the
queue of waiting commands. -/
def reach : Instr → List Block
  | .encoderEdge _ _ _ =>
    [.inputs, .pos, .scan, .seg, .tab, .slots, .psw, .arb, .mag, .ecs, .jet, .stations, .alerts, .switchMark, .clink, .draws]
  | .stopTimerExpiry => [.pos]
  | .segmentCompletion _ => [.mag]
  | .heatStep => [.mag, .arb, .tab, .ecs, .alerts, .draws]
  | .hotInputChange _ => [.inputs, .mag]
  | .hotDebounceExpiry => [.mag]
  | .magOkChange _ => [.inputs, .mag, .stations, .ecs]
  | .magOkWatchExpiry => .alerts :: leavingBlocks
  | .tachEdge => [.ecs, .draws]
  | .tachTimeout => [.ecs]
  | .economyTimerExpiry => [.ecs]
  | .spinUpWatchExpiry => [.ecs, .alerts]
  | .stallWatchExpiry => .alerts :: leavingBlocks
  | .flapCompletion _ => [.ecs]
  | .ecsOkChange _ _ => [.inputs, .ecs, .stations]
  | .ecsOkWatchExpiry _ => .alerts :: leavingBlocks
  | .pulseOpen _ => [.jet]
  | .pulseClose _ => [.jet, .tab, .ecs, .draws]
  | .jetOkChange _ => [.inputs, .jet, .stations, .ecs]
  | .jetOkWatchExpiry => .alerts :: leavingBlocks
  | .censusWaitExpiry _ => [.stations, .alerts]
  | .estopInputChange _ => [.inputs, .estop]
  | .estopAsserted => .estop :: .alerts :: leavingBlocks
  | .estopReleased => [.estop, .ecs]
  | .switchMarkEnd => [.switchMark]
  | .hardReset _ =>
    [.inputs, .pos, .scan, .seg, .tab, .line, .slots, .psw, .arb, .mag, .ecs, .jet, .stations, .estop, .alerts, .switchMark, .slink,
      .clink]
  | .frameReceived l _ _ => [linkBlock l, .alerts]
  | .frameDropped l _ _ => [linkBlock l, .alerts]
  | .frameGapTimeout l => [linkBlock l, .alerts]
  | .frameSent l => [linkBlock l]
  | .verdict => [.clink, .tab]
  | .verdictAt => [.clink, .tab]
  | .locate => [.clink]
  | .paramRead => [.slink]
  | .paramWrite => [.slink, .line, .slots, .psw]
  | .stopMsWrite => [.slink, .line, .pos]
  | .t64RunWrite => [.slink, .line, .pos]
  | .backlashMaxWrite => [.slink, .line]
  | .geometryWrite => [.slink, .line]
  | .heatMaxWrite => [.slink, .line, .mag, .arb, .tab, .ecs, .alerts, .draws]
  | .rotorMaxRpmWrite => [.slink, .line, .slots, .ecs]
  | .rotorBandWrite => [.slink, .line, .ecs]
  | .slinkRateWrite => [.slink, .line]
  | .clinkRateWrite => [.slink, .line, .clink]
  | .alertMaskWrite => [.slink, .line]
  | .auxFunctionWrite => [.slink, .line, .mag]
  | .routeRead => [.slink]
  | .routeWrite => [.slink, .slots, .psw]
  | .recipeCopy => [.slink, .slots]
  | .recipeArm => [.slink, .slots]
  | .recipeDisarm => [.slink, .slots, .psw]
  | .recipeFree => [.slink, .slots]
  | .recipeSwitch => [.slink, .slots, .psw, .switchMark, .ecs]
  | .recipeStatus => [.slink]
  | .recordRead => [.slink]
  | .recordFind => [.slink]
  | .recordOverride => [.slink, .tab, .arb, .ecs, .draws]
  | .recordCancel => [.slink, .tab, .arb, .ecs, .jet, .seg, .slots]
  | .collect => [.slink, .tab, .slots, .ecs]
  | .tableSummary => [.slink]
  | .totalsRead => [.slink]
  | .totalsClear => [.slink, .tab]
  | .stationSetOffline => .slink :: leavingBlocks
  | .stationSetOnline => .slink :: leavingBlocks
  | .stationStatus => [.slink, .stations]
  | .census => .slink :: leavingBlocks
  | .status => [.slink]
  | .alertClear => [.slink, .alerts]
  | .purge => [.slink, .seg, .tab, .slots, .arb, .mag, .ecs, .jet]
  | .restart =>
    [.slink, .clink, .pos, .scan, .seg, .tab, .slots, .psw, .arb, .mag, .ecs, .jet, .stations, .alerts, .switchMark, .draws]
  | .receiverByteTaken l _ _ => [linkBlock l, .alerts]
  | .badKindRequest l => [linkBlock l]

/-! ### Requests and replies -/

/-- A frame stands at the head of a link's receive queue, `rest` behind it, and the transmit queue has a free place: the request can be
taken (R66, R164). -/
def State.Waits (s : State) (l : Link) (kind : Nat) (body : List Byte) (rest : List Frame) : Prop :=
  (s.link l).rxQueue = { kind := BitVec.ofNat 8 kind, body := body } :: rest ∧ (s.link l).txQueue.length < txPlaces l

/-- The state as a request is served against it: the request has left the receive queue (R66). -/
def State.popped (s : State) (l : Link) (rest : List Frame) : State := s.modLink l fun k => { k with rxQueue := rest }

/-- A reply joins the tail of a link's transmit queue: the request's KIND plus 80h, the status byte, the rest of the layout (R164). -/
def State.replied (s : State) (l : Link) (kind : Nat) (status : Status) (rest : List Byte) (rateAfter : Option Nat := none) : State :=
  s.modLink l fun k =>
    { k with txQueue := k.txQueue ++ [{ kind := BitVec.ofNat 8 (kind + 0x80), body := status.code :: rest, rateAfter := rateAfter }] }

/-- The body of a PARAM_WRITE, and of its reply after the status: number, slot, value (section 10.7). -/
def paramBody (number slot value : Nat) : List Byte := le 2 number ++ le 1 slot ++ le 4 value

/-- The length that section 10.7 gives the body of a request; none for a KIND that the link does not serve. -/
def bodyLength : Link → Nat → Option Nat
  | .classifier, 0x10 => some 4
  | .classifier, 0x11 => some 7
  | .classifier, 0x12 => some 5
  | .classifier, _ => none
  | .supervisor, 0x20 => some 3
  | .supervisor, 0x21 => some 7
  | .supervisor, 0x22 => some 3
  | .supervisor, 0x23 => some 5
  | .supervisor, 0x24 => some 7
  | .supervisor, 0x28 => some 2
  | .supervisor, 0x29 => some 5
  | .supervisor, 0x2A => some 4
  | .supervisor, 0x2B => some 2
  | .supervisor, 0x2C => some 0
  | .supervisor, 0x2D => some 0
  | .supervisor, 0x30 => some 0
  | .supervisor, 0x31 => some 0
  | .supervisor, 0x34 => some 2
  | .supervisor, 0x35 => some 0
  | .supervisor, 0x36 => some 0
  | .supervisor, 0x38 => some 0
  | .supervisor, 0x39 => some 2
  | .supervisor, 0x3C => some 0
  | .supervisor, 0x3D => some 0
  | .supervisor, _ => none

/-- A value held within a range (R97): below it the low end, above it the high end. -/
def clampTo (low high v : Nat) : Nat := if v < low then low else if high < v then high else v

/-- OK where a value was stored as written, CLAMPED where it was not (R97). -/
def storedStatus (written stored : Nat) : Status := if stored = written then .ok else .clamped

/-- Bytes arrive at a link's receiver one after the other, each with its stop bit. -/
def State.feed (l : Link) : List Byte → State → Host.Outcome State Fault Refusal
  | [], s => .next s
  | b :: bs, s =>
    match exec (.receiverByteTaken l b true) s with
    | .next t => State.feed l bs t
    | .fault r => .fault r
    | .refused r => .refused r

/-- The frame at hand at a link's receiver is over between `s` and `t`, completed or dropped (R100): a rate that waits for it is in force
and waits no more, and the transmitter's rates stay. -/
def State.FrameOver (s t : State) (l : Link) : Prop :=
  (t.link l).rxRate = ((s.link l).rxRateDue).getD (s.link l).rxRate ∧ (t.link l).rxRateDue = none ∧
  (t.link l).txRate = (s.link l).txRate ∧ (t.link l).txRateDue = (s.link l).txRateDue

/-! ### What the part has due -/

/-- The condition at which a command that the part gives itself is due: a watched time is reached (R9), a heat step has fallen due (R127),
a PENDING pulse's open time or an OPEN one's close time is reached (R155, R156), an INTERROGATING station's wait is over (R165), ESTOP has
held its level (R167), or a receiver has waited too long inside a frame (R163; the whole microsecond is log entry 8's). -/
def State.TimeReached (s : State) : Instr → Prop
  | .stopTimerExpiry => due s.now s.pos.stopTimer = true
  | .segmentCompletion k => due s.now s.mag.segments[k].completion = true
  | .heatStep => s.mag.heatDue = true
  | .hotDebounceExpiry => due s.now s.mag.hotDebounce = true
  | .magOkWatchExpiry => due s.now s.mag.okWatch = true
  | .tachTimeout => due s.now s.ecs.tachTimeout = true
  | .economyTimerExpiry => due s.now s.ecs.economy = true
  | .spinUpWatchExpiry => due s.now s.ecs.spinUp = true
  | .stallWatchExpiry => due s.now s.ecs.stall = true
  | .flapCompletion k => due s.now s.ecs.flaps[k].completion = true
  | .ecsOkWatchExpiry .drive => due s.now s.ecs.driveWatch = true
  | .ecsOkWatchExpiry .flap => due s.now s.ecs.flapWatch = true
  | .pulseOpen n => ∃ p ∈ s.jet.pulses[n], p.isOpen = false ∧ reached s.now p.openAt = true
  | .pulseClose n => ∃ p ∈ s.jet.pulses[n], p.isOpen = true ∧ reached s.now p.closeAt = true
  | .jetOkWatchExpiry => due s.now s.jet.okWatch = true
  | .censusWaitExpiry st => s.avail st = .interrogating ∧ due s.now (s.lsig.stations.get st).wait = true
  | .estopAsserted => due s.now s.lsig.estopFilter = true ∧ s.inputs.estop = true
  | .estopReleased => due s.now s.lsig.estopFilter = true ∧ s.inputs.estop = false
  | .switchMarkEnd => due s.now s.lsig.switchMark = true
  | .frameGapTimeout l => (s.link l).rx.phase ≠ .hunt ∧ reached s.now ((s.link l).rx.lastByte + 2001) = true
  | _ => False

/-! ### The settle test -/

/-- The disposition that the outcomes of a route's actions give (R50): the target bin if every action that is not NONE is DONE, and else
DIVERTED with the first station of the order M, E, A whose action failed. -/
def RouteEntry.DisposedAs (e : RouteEntry) (o : ByStation Result) (d : Disposition) : Prop :=
  let done (st : Station) : Prop := e.acts st = true → o.get st = .done
  (done .m → done .e → done .a → d = .bin e.target) ∧
  (¬ done .m → d = .diverted .m) ∧ (done .m → ¬ done .e → d = .diverted .e) ∧ (done .m → done .e → ¬ done .a → d = .diverted .a)

/-- The settle test has been put to the record of a tag between `s` and `t`, by what is outstanding of it and its outcomes as they stand in
`t` (R49, R50, R51): a record that meets it is SETTLED, disposed of by its outcomes, and in the settled queue; any other keeps its
state. The tail departure is the mark `tailGone` (log entry 5). -/
def State.Judged (s t : State) (tag : Nat) : Prop :=
  ∀ r, s.find tag = some r → ∃ r', t.find tag = some r' ∧
    let settles (e : RouteEntry) : Prop := r.route = some e ∧ (r.state = .routed ∨ r.state = .airborne) ∧
      (∀ st, t.hasClaims tag st = false) ∧ t.hasPulse tag = false ∧ (e.m = .lift ∧ r'.outcome.m = .done ∨ r.tailGone = true)
    (∀ e, settles e → r'.state = .settled ∧ tag ∈ t.tab.queue ∧ ∃ d, r'.disposition = some d ∧ e.DisposedAs r'.outcome d) ∧
    ((∀ e, ¬ settles e) →
      r'.state = r.state ∧ r'.disposition = r.disposition ∧ (tag ∈ t.tab.queue ↔ tag ∈ s.tab.queue))

/-! ### A station's leaving READY -/

/-- The outcome that a record's action at a station holds once the station has left READY (R116, R159): an action PLACED or ACTING is CUT
with a claim BEGUN, and at station A with a pulse too; it is SKIPPED with its claims WAITING, or if it is a SPIN; any other outcome
stays. -/
def State.leftOutcome (s : State) (st : Station) (why : Reason) (r : Record) : Result :=
  match r.route with
  | none => r.outcome.get st
  | some e =>
    if e.acts st ∧ (r.outcome.get st = .placed ∨ r.outcome.get st = .acting) then
      if s.hasBegun r.tag st ∨ st = .a ∧ s.hasPulse r.tag then .cut why
      else if s.hasClaims r.tag st ∨ st = .e ∧ e.e = .spin then .skipped why
      else r.outcome.get st
    else r.outcome.get st

/-- What station `st` has given up between `s` and `t` by leaving READY with a reason: its claims and their records' outcomes (R116), and
in its block the drive of every segment, the hold-off watches, the landing watches, or the pulses, with the fault watches (R132, R133,
R146, R147, R158, R159). Heat, COOLING and the flaps' travel go on. -/
def State.Left (s t : State) (st : Station) (why : Reason) : Prop :=
  (∀ l ∈ t.arb.lists st, l = []) ∧
  (∀ r ∈ s.tab.records, ∃ r' ∈ t.tab.records, r'.tag = r.tag ∧ r'.outcome.get st = s.leftOutcome st why r) ∧
  match st with
  | .m =>
    t.mag.okWatch = none ∧ ∀ k : Fin 8,
      t.mag.segments[k] =
        let g := s.mag.segments[k]
        if g.driven then
          { g with
            power := .falling, completion := some (s.now + BitVec.ofNat 32 (s.line.magFallMs * 1000)), holding := [], watches := [] }
        else { g with holding := [], watches := [] }
  | .e =>
    t.ecs.driveWatch = none ∧ t.ecs.flapWatch = none ∧ ∀ k : Fin 4, t.ecs.flaps[k] = { s.ecs.flaps[k] with watches := [] }
  | .a => t.jet.okWatch = none ∧ ∀ n : Fin 64, t.jet.pulses[n] = []

/-- A station's leaving READY concerns a record (R116, R159): the record has a claim there, at station A a pulse, or an outcome to take. -/
def State.Affects (s : State) (st : Station) (why : Reason) (r : Record) : Prop :=
  s.hasClaims r.tag st = true ∨ (st = .a ∧ s.hasPulse r.tag = true) ∨ s.leftOutcome st why r ≠ r.outcome.get st

/-- The records when stations leave READY between `s` and `t` (R49, R116): the settle test has been put to each record that the leaving of
one of them concerns, and every other record is as it was. -/
def State.JudgedAtLeaving (s t : State) (leaving : Station → Prop) (why : Reason) : Prop :=
  ∀ tag r, s.find tag = some r →
    let concerned : Prop := ∃ st, leaving st ∧ ∃ x ∈ s.tab.records, x.tag = tag ∧ s.Affects st why x
    (concerned → s.Judged t tag) ∧ (¬ concerned → t.find tag = some r)

/-- The station whose fault a watch reports, where its time is reached (R132, R141, R146, R158). -/
def State.faultDue (s : State) : Instr → Option Station
  | .magOkWatchExpiry => if due s.now s.mag.okWatch then some .m else none
  | .ecsOkWatchExpiry .drive => if due s.now s.ecs.driveWatch then some .e else none
  | .ecsOkWatchExpiry .flap => if due s.now s.ecs.flapWatch then some .e else none
  | .stallWatchExpiry => if due s.now s.ecs.stall then some .e else none
  | .jetOkWatchExpiry => if due s.now s.jet.okWatch then some .a else none
  | _ => none

/-- A rotor state is the one that R138 reads from a demand and a measured speed: at a demand of 0, STOPPED below 50 rpm and else
RAMPING_DOWN; above 0, RAMPING_UP below the band, RAMPING_DOWN above it, and within it RUN or IDLE by the kind of demand. -/
def RotorReads (band : Nat) (kind : DemandKind) (demand speed : Nat) (state : RotorState) : Prop :=
  (demand = 0 → speed < 50 → state = .stopped) ∧ (demand = 0 → 50 ≤ speed → state = .rampingDown) ∧
  (0 < demand → speed < demand * (100 - band) / 100 → state = .rampingUp) ∧
  (0 < demand → (demand * (100 + band) + 99) / 100 < speed → state = .rampingDown) ∧
  (0 < demand → demand * (100 - band) / 100 ≤ speed → speed ≤ (demand * (100 + band) + 99) / 100 →
    state = if kind = .run then .run else .idle)

/-! ### The rotor's demand, the need set and the watches -/

/-- The demand is the one that the table of R137 gives, the first row that applies. -/
def State.DemandIsSet (s : State) : Prop :=
  let demands (kind : DemandKind) (value : Nat) : Prop := s.ecs.demandKind = kind ∧ s.ecs.demandValue = value
  let runs : Prop := s.ecs.need ≠ [] ∨ s.activeParams.econEn = 0 ∨ s.ecs.economy ≠ none
  (s.avail .e ≠ .ready ∨ s.lsig.estop = true → demands .none 0) ∧
  (s.avail .e = .ready → s.lsig.estop = false → runs → demands .run s.activeParams.runRpm) ∧
  (s.avail .e = .ready → s.lsig.estop = false → ¬ runs → demands .idle s.activeParams.idleRpm)

/-- Both conditions of the stall watch hold (R141): the demand is above 0 and the measured speed is 0. -/
abbrev Ecs.Stalls (e : Ecs) : Prop := 0 < e.demandValue ∧ e.speed = 0

/-- ECS has evaluated the rotor state between `s` and `t` (R138), and the two watches of R141 have followed it: the spin-up watch is set at
an entry to RAMPING_UP, stays while the state does, and is withdrawn on leaving it; the stall watch is set when both its conditions hold, a
watch that runs staying, and is withdrawn when one ceases to hold. -/
def State.RotorEvaluated (s t : State) : Prop :=
  RotorReads t.line.rotorBand t.ecs.demandKind t.ecs.demandValue t.ecs.speed t.ecs.rotor ∧
  (t.ecs.rotor ≠ .rampingUp → t.ecs.spinUp = none) ∧
  (t.ecs.rotor = .rampingUp → t.ecs.spinUp =
    if s.ecs.rotor = .rampingUp then s.ecs.spinUp else some (s.now + BitVec.ofNat 32 (2 * t.line.spinupMs * 1000))) ∧
  (¬ t.ecs.Stalls → t.ecs.stall = none) ∧ (t.ecs.Stalls → t.ecs.stall = some (s.ecs.stall.getD (s.now + 2000000)))

/-- The rotor state and the watches of R141 are as they were. -/
def State.RotorKept (s t : State) : Prop :=
  t.ecs.rotor = s.ecs.rotor ∧ t.ecs.spinUp = s.ecs.spinUp ∧ t.ecs.stall = s.ecs.stall

/-- ECS has evaluated the demand between `s` and `t` (R137): it is the one the table gives, and where it has changed ECS has evaluated the
rotor state as well. -/
def State.DemandEvaluated (s t : State) : Prop :=
  t.DemandIsSet ∧
  (t.ecs.demandKind = s.ecs.demandKind → t.ecs.demandValue = s.ecs.demandValue → s.RotorKept t) ∧
  (t.ecs.demandKind ≠ s.ecs.demandKind ∨ t.ecs.demandValue ≠ s.ecs.demandValue → s.RotorEvaluated t)

/-- The demand after station E has left READY or become READY between `s` and `t` (R137, R141, R146, R147): the one that R137 gives, with
the rotor state that R138 reads, and each watch of R141 set at this moment where its condition holds, and else withdrawn. -/
def State.RotorAfresh (s t : State) : Prop :=
  t.DemandIsSet ∧ RotorReads t.line.rotorBand t.ecs.demandKind t.ecs.demandValue t.ecs.speed t.ecs.rotor ∧
  (t.ecs.rotor = .rampingUp → t.ecs.spinUp = some (s.now + BitVec.ofNat 32 (2 * t.line.spinupMs * 1000))) ∧
  (t.ecs.rotor ≠ .rampingUp → t.ecs.spinUp = none) ∧
  (t.ecs.Stalls → t.ecs.stall = some (s.now + 2000000)) ∧ (¬ t.ecs.Stalls → t.ecs.stall = none)

/-- A record meets one of the tests of R139: the early need of a PENDING record, or the need of a ROUTED or AIRBORNE one whose E action has
no final outcome. -/
def Record.Needs (r : Record) : Prop :=
  (r.state = .pending ∧ ∃ c, r.closing = some c ∧
    (c.signature = .nonferrous ∨ c.signature = .stainless ∨ c.signature = .mixed)) ∨
  ((r.state = .routed ∨ r.state = .airborne) ∧ ∃ e, r.route = some e ∧ e.e ≠ .none ∧
    (r.outcome.e = .none ∨ r.outcome.e = .placed ∨ r.outcome.e = .acting))

/-- What the need set's becoming non-empty or empty between `s` and `t` brings with it (R139, R140): it stops the economy timer, or sets it
afresh, and ECS has evaluated the demand. -/
def State.NeedMoves (s t : State) : Prop :=
  (s.ecs.need = [] → t.ecs.need ≠ [] → t.ecs.economy = none ∧ s.DemandEvaluated t) ∧
  (s.ecs.need ≠ [] → t.ecs.need = [] →
    t.ecs.economy = some (s.now + BitVec.ofNat 32 (s.line.econHoldMs * 1000)) ∧ s.DemandEvaluated t)

/-- A change of membership that leaves the need set empty, or leaves it non-empty, changes neither the demand nor the timer (R139). -/
def State.NeedStays (s t : State) : Prop :=
  (s.ecs.need = [] ↔ t.ecs.need = []) → t.ecs.economy = s.ecs.economy ∧ t.ecs.demandKind = s.ecs.demandKind ∧
    t.ecs.demandValue = s.ecs.demandValue ∧ s.RotorKept t

/-- Of the need set only a tag's membership may have changed between `s` and `t`, with what follows from it. -/
def State.NeedFollows (s t : State) (tag : Nat) : Prop :=
  (∀ x, x ≠ tag → (x ∈ t.ecs.need ↔ x ∈ s.ecs.need)) ∧ s.NeedMoves t ∧ s.NeedStays t

/-! ### The recipe slots and the records -/

/-- Recipe slot `k` has lost one live record between `s` and `t` (R56, R86, R93): its reference count is one lower, and a DRAINING slot
whose count falls to 0 is FREE with the default recipe. The other slots, the pending switch and the line-wide parameters stay. -/
def State.SlotLost (s t : State) (k : Fin 3) : Prop :=
  t.rcp.psw = s.rcp.psw ∧ t.rcp.line = s.rcp.line ∧ ∀ j : Fin 3, t.rcp.slots[j] =
    let c := s.rcp.slots[j]
    if j = k then
      if c.state = .draining ∧ c.refs ≤ 1 then { state := .free, refs := 0, recipe := Recipe.default s.line.rotorMaxRpm }
      else { c with refs := c.refs - 1 }
    else c

/-- A recipe switch has taken effect between `s` and `t` (R92, R148, R169): the ARMED slot is ACTIVE; the old ACTIVE one is DRAINING while
records carry it, and else FREE with the default recipe; no switch is pending; SWITCH_MARK runs for 10 ms; and the demand follows R137 with
the values of the new ACTIVE slot, the rotor state R138, and the watches R141. -/
def State.Switches (s t : State) : Prop :=
  t.rcp.psw = none ∧ t.rcp.line = s.rcp.line ∧ t.lsig = { s.lsig with switchMark := some (s.now + 10000) } ∧
  (∀ k : Fin 3, t.rcp.slots[k] =
    let c := s.rcp.slots[k]
    if c.state = .armed then { c with state := .active }
    else if c.state = .active then
      if 0 < c.refs then { c with state := .draining }
      else { state := .free, refs := 0, recipe := Recipe.default s.line.rotorMaxRpm }
    else c) ∧
  (let ready : Prop := s.avail .e = .ready ∧ s.lsig.estop = false
   let run : Prop := s.ecs.need ≠ [] ∨ t.activeParams.econEn = 0 ∨ s.ecs.economy ≠ none
   (¬ ready → t.ecs.demandKind = .none ∧ t.ecs.demandValue = 0) ∧
   (ready → run → t.ecs.demandKind = .run ∧ t.ecs.demandValue = t.activeParams.runRpm) ∧
   (ready → ¬ run → t.ecs.demandKind = .idle ∧ t.ecs.demandValue = t.activeParams.idleRpm)) ∧
  s.RotorEvaluated t

/-- A record's outcome tells that a claim of the action has begun (R80): ACTING, DONE, BREACHED, CUT or DENIED(THERMAL). -/
def Result.TellsBegun (o : Result) : Prop :=
  o = .acting ∨ o = .done ∨ o = .breached ∨ (∃ why, o = .cut why) ∨ o = .denied .thermal

/-- The information of a station after a census taken at `now` (R165): READY where its OK input is asserted, else INTERROGATING with the
wait set. -/
def censused (ok : Bool) (now : W32) (waitMs : Nat) (acted : Bool) : StationInfo :=
  if ok then { avail := .ready, wait := none, acted := acted }
  else { avail := .interrogating, wait := some (now + BitVec.ofNat 32 (waitMs * 1000)), acted := acted }

/-- The recipe slots once every record has been retired (R59, R101): no record carries any, and a DRAINING one is FREE with the default
recipe. -/
def State.SlotsEmptied (s t : State) : Prop :=
  t.rcp.line = s.rcp.line ∧ ∀ k : Fin 3, t.rcp.slots[k] =
    if s.rcp.slots[k].state = .draining then { state := .free, refs := 0, recipe := Recipe.default s.line.rotorMaxRpm }
    else { s.rcp.slots[k] with refs := 0 }

/-- The table once every record has been retired, each that was not SETTLED counted CANCELLED (R59). -/
def Table.emptied (t : Table) (tagCounter : Nat) : Table :=
  { records := [], queue := [], tagCounter := tagCounter
    totals := { t.totals with
      cancelled := min 4294967295 (t.totals.cancelled + (t.records.filter fun r => r.state != .settled).length) } }

/-- The actions and the pulses are gone (R117, R161). -/
def State.NothingClaimed (t : State) : Prop := (∀ st : Station, ∀ l ∈ t.arb.lists st, l = []) ∧ ∀ n : Fin 64, t.jet.pulses[n] = []

/-! ### The encoder -/

/-- The edge that stands at the encoder passes the glitch filter (R1). -/
def State.EdgeAccepted (s : State) : Prop := ∀ e, s.pos.lastEdge = some e → s.line.encFilter ≤ (s.now - e).toNat

/-- The state once an accepted edge has been sampled, before it counts (R1, R2). -/
def State.sampled (s : State) (a b : Bool) : State :=
  { s with inputs := { s.inputs with encA := a, encB := b }, pos := { s.pos with lastEdge := some s.now, accA := a, accB := b } }

/-- The levels (a, b) are the accepted pair's next in the forward order of R2. -/
def State.Forward (s : State) (a b : Bool) : Prop := a = !s.pos.accB ∧ b = s.pos.accA

/-- The levels (a, b) are the accepted pair's next in the reverse order of R2. -/
def State.Reverse (s : State) (a b : Bool) : Prop := a = s.pos.accB ∧ b = !s.pos.accA

/-! ### The layouts of a reply -/

/-- The rest of a RECIPE reply, byte by byte (R94, R164, section 10.7): the three slot states, the three reference counts, the ARMED slot or
255, and the pending flag with Psw, which both hold 0 with no switch pending. A pending switch shows in the flag as a byte that is not 0. -/
def State.StoreReads (s : State) (b : List Byte) : Prop :=
  b.length = 15 ∧
  (∀ k : Fin 3, byteAt b k = (match s.rcp.slots[k].state with
      | .free => 0
      | .edit => 1
      | .armed => 2
      | .active => 3
      | .draining => 4) ∧
    halfAt b (3 + 2 * k) = s.rcp.slots[k].refs % 65536) ∧
  (∀ k : Fin 3, s.rcp.slots[k].state = .armed → (∀ j : Fin 3, j < k → s.rcp.slots[j].state ≠ .armed) → byteAt b 9 = k) ∧
  ((∀ k : Fin 3, s.rcp.slots[k].state ≠ .armed) → byteAt b 9 = 255) ∧
  (s.rcp.psw = none → byteAt b 10 = 0 ∧ wordAt b 11 = 0) ∧ ∀ p, s.rcp.psw = some p → byteAt b 10 ≠ 0 ∧ wordAt b 11 = p.toNat

/-- The record read-out, field by field (section 10.7): each field in its place and width, an absent one 0 with its presence bit clear. -/
def Record.Reads (r : Record) (b : List Byte) : Prop :=
  let bits (i : Nat) : Nat → Bool := (byteAt b i).testBit
  b.length = 40 ∧ halfAt b 0 = r.tag % 65536 ∧
  byteAt b 2 % 4 = r.slot.val ∧
  byteAt b 2 / 4 % 8 = (match r.state with
    | .opened => 0
    | .pending => 1
    | .routed => 2
    | .airborne => 3
    | .settled => 4) ∧
  (bits 3 0 = r.flags.overlength ∧ bits 3 1 = r.flags.continued ∧ bits 3 2 = r.flags.lateVerdict ∧
    bits 3 3 = r.flags.overridden ∧ (bits 3 4 = true ↔ ∃ v, r.verdict = some v ∧ v.source = .supervisor)) ∧
  (bits 4 0 = r.closing.isSome ∧ bits 4 1 = r.verdict.isSome ∧ bits 4 2 = r.forced.isSome ∧
    bits 4 3 = r.route.isSome ∧ bits 4 4 = r.departure.isSome ∧ bits 4 5 = r.disposition.isSome) ∧
  byteAt b 5 = r.span.first % 256 ∧ byteAt b 6 = r.span.last % 256 ∧ wordAt b 7 = r.f.toNat ∧
  (match r.closing with
    | some c => wordAt b 11 = c.t.toNat ∧ halfAt b 15 = c.length % 65536 ∧ byteAt b 20 / 16 % 8 = c.signature.code.toNat
    | none => wordAt b 11 = 0 ∧ halfAt b 15 = 0 ∧ byteAt b 20 / 16 % 8 = 0) ∧
  halfAt b 17 = r.peak.excess % 65536 ∧ byteAt b 19 = r.peak.phase % 256 ∧
  (bits 20 0 = r.classes.ferrous ∧ bits 20 1 = r.classes.nonferrous ∧ bits 20 2 = r.classes.stainless) ∧
  (match r.verdict with
    | some v => byteAt b 21 = v.code % 256 ∧ byteAt b 22 = v.conf % 256 ∧ byteAt b 23 = v.amend % 256
    | none => byteAt b 21 = 0 ∧ byteAt b 22 = 0 ∧ byteAt b 23 = 0) ∧
  halfAt b 24 = (match r.forced with
    | some e => e.code % 65536
    | none => 0) ∧
  halfAt b 26 = (match r.route with
    | some e => e.code % 65536
    | none => 0) ∧
  byteAt b 28 = (match r.column with
    | some (.col n) => n.val
    | some .overlength => 16
    | none => 0) ∧
  byteAt b 29 = r.outcome.m.code.toNat ∧ byteAt b 30 = r.outcome.e.code.toNat ∧ byteAt b 31 = r.outcome.a.code.toNat ∧
  (match r.departure with
    | some d => wordAt b 32 = d.tDep.toNat ∧ halfAt b 36 + 65536 * byteAt b 38 = d.t64Dep % 16777216
    | none => wordAt b 32 = 0 ∧ halfAt b 36 = 0 ∧ byteAt b 38 = 0) ∧
  (match r.disposition with
    | some (.bin x) => byteAt b 39 % 8 = x.code
    | some (.diverted st) => byteAt b 39 % 8 = 4 ∧ byteAt b 39 / 16 % 4 = stationCode st
    | none => byteAt b 39 = 0)

/-- The bits of a record read-out to which section 10.7 gives no meaning are 0, the failing station of a record that went to a bin with
them (the model's choice, log entry 14). -/
def Record.SpareBitsClear (r : Record) (b : List Byte) : Prop :=
  byteAt b 2 < 32 ∧ byteAt b 3 < 32 ∧ byteAt b 4 < 64 ∧ byteAt b 20 < 128 ∧ (byteAt b 20).testBit 3 = false ∧
  byteAt b 39 < 64 ∧ (byteAt b 39).testBit 3 = false ∧ ∀ x, r.disposition = some (.bin x) → byteAt b 39 < 8

/-! ### The claims of a record -/

/-- Every claim of a record's action at a station meets a condition, and there is one. -/
def State.ActionStands (s : State) (tag : Nat) (st : Station) (p : Claim → Prop) : Prop :=
  s.hasClaims tag st = true ∧ ∀ l ∈ s.arb.lists st, ∀ c ∈ l, c.owner = tag → p c

/-- A list of a station holds a claim of a record: its resource is one of the action's set. -/
def State.Holds (s : State) (tag : Nat) (st : Station) (i : Nat) : Prop := ∃ c ∈ (s.arb.lists st).getD i [], c.owner = tag

/-- The lists of a station without the claims of a record. -/
def State.listsWithout (s : State) (tag : Nat) (st : Station) : List (List Claim) :=
  (s.arb.lists st).map fun l => l.filter fun c => c.owner != tag

/-- Segments at their limit have forced their lifts off between `s` and `t` (R115, R123, R124, R129). A record with a LIFT BEGUN on one of
them loses its claims at station M, its M outcome is CUT(THERMAL) unless it is final, and the settle test is put to it; every other record
stays. Each segment of such a LIFT's set lets go of its tag, and falls for MAG_FALL_MS if nothing else is held and its drive is on; a
segment at its limit falls in any case; every other segment keeps its power and its completion. A fall breaches the hold-off watches
(R125). -/
def State.LiftsCut (s t : State) (limit : Fin 8 → Prop) : Prop :=
  let cut (tag : Nat) : Prop := ∃ j : Fin 8, limit j ∧ tag ∈ s.liftsOn j
  (∀ i x, x ∈ (t.arb.lists .m).getD i [] ↔ x ∈ (s.arb.lists .m).getD i [] ∧ ¬ cut x.owner) ∧
  (∀ tag r, s.find tag = some r →
    (cut tag → s.Judged t tag ∧ ∃ r', t.find tag = some r' ∧
      r'.outcome = if r.outcome.m.inProgress then r.outcome.set .m (.cut .thermal) else r.outcome) ∧
    (¬ cut tag → t.find tag = some r)) ∧
  ∀ k : Fin 8,
    let g := s.mag.segments[k]
    let g' := t.mag.segments[k]
    let loses (tag : Nat) : Prop := cut tag ∧ s.Holds tag .m k
    let falls : Prop := limit k ∨ (∃ tag, loses tag) ∧ g'.holding = [] ∧ g.driven = true
    g'.holding.Sublist g.holding ∧ (∀ tag, tag ∈ g'.holding ↔ tag ∈ g.holding ∧ ¬ loses tag) ∧
    (falls → g'.power = .falling ∧ g'.completion = some (s.now + BitVec.ofNat 32 (s.line.magFallMs * 1000)) ∧
      g'.watches = g.watches.map fun w => { w with breached := true }) ∧
    (¬ falls → g'.power = g.power ∧ g'.completion = g.completion ∧ g'.watches = g.watches)

/-- The claim lists with the claims of a record gone from every one of them (R117). -/
def Arb.without (a : Arb) (tag : Nat) : Arb :=
  let drop (l : List Claim) : List Claim := l.filter fun c => c.owner != tag
  { segments := a.segments.map drop, flaps := a.flaps.map drop, nozzles := a.nozzles.map drop }

/-- What the placement of one action of a route has done between `s` and `t`, by the tests of R107 in their order: SKIPPED(OFFLINE) off
READY; a SPIN is PLACED with no claim; DENIED(LATE) once its start is reached; DENIED(CONFLICT) where a conflicting claim on its resources
stands firm (R108); DENIED(CAPACITY) where a list would hold more than 12; and else PLACED, with its claim on each resource of its set and
no other, and every conflicting action of lower priority pre-empted on all its resources (R109), with the settle test put to its record
(R115). The claim runs from R106's start to its
end, both computed from the front F, the tail T and the T64 of the placement. -/
def State.PlacesAction (s t : State) (r : Record) (e : RouteEntry) (c : Closing) (st : Station) : Prop :=
  let outcome (o : Result) : Prop := ∃ r', t.find r.tag = some r' ∧ r'.outcome.get st = o
  let q := s.paramsOf r
  let lead (us : Nat) : W32 := BitVec.ofNat 32 ((us * 64 + s.pos.t64 - 1) / s.pos.t64)
  let at' (from' : W32) (counts : Nat) : W32 := from' + BitVec.ofNat 32 counts
  let set : Nat × Nat :=
    match st with
    | .m => (r.span.first / 4, r.span.last / 4)
    | .e => (r.span.first / 8, r.span.last / 8)
    | .a => (2 * r.span.first - q.nozMargin, min 63 (2 * r.span.last + 1 + q.nozMargin))
  (s.avail st ≠ .ready → outcome (.skipped .offline) ∧ t.arb.lists st = s.arb.lists st) ∧
  (s.avail st = .ready → e.kind st = none → outcome .placed ∧ t.arb.lists st = s.arb.lists st) ∧
  ∀ k, s.avail st = .ready → e.kind st = some k →
    let claim : Claim :=
      { owner := r.tag, kind := k, priority := e.priority, begun := false
        start :=
          match k with
          | .lift => at' r.f s.line.pMag - lead (s.line.magRiseMs * 1000)
          | .holdOff => at' r.f s.line.pMag
          | .near => at' r.f s.line.pHead - lead (s.line.flapTravelMs * 1000)
          | .far => at' r.f s.line.pHead - lead (s.line.flapTravelMs * 1000)
          | .eject => at' r.f (s.line.pHead + s.line.dAir) - lead s.line.valveLat
          | .guard => at' r.f (s.line.pHead + s.line.dAir) - lead s.line.valveLat
        release := if k = .lift then some (at' c.t (s.line.pMag + s.line.magLen)) else none
        stop :=
          match k with
          | .lift => at' c.t (s.line.pMag + s.line.magLen) + lead (s.line.magFallMs * 1000)
          | .holdOff => at' c.t (s.line.pMag + s.line.magLen)
          | .near => at' c.t (s.line.pHead + s.line.land)
          | .far => at' c.t (s.line.pHead + s.line.land)
          | .eject => at' c.t (s.line.pHead + s.line.dAir) + lead q.padUs
          | .guard => at' c.t (s.line.pHead + s.line.dAir) + lead q.padUs }
    let list (x : State) (i : Nat) : List Claim := (x.arb.lists st).getD i []
    let rivals (x : Claim) : Prop := ∃ i, set.1 ≤ i ∧ i ≤ set.2 ∧ x ∈ list s i ∧ x.kind.opposes k = true ∧
      reached x.stop claim.start = true ∧ reached claim.stop x.start = true
    let firm : Prop := ∃ x, rivals x ∧ (x.begun = true ∨ e.priority ≤ x.priority ∨ x.kind = .eject ∧ s.hasPulse x.owner = true)
    let full : Prop := ∃ i, set.1 ≤ i ∧ i ≤ set.2 ∧ ∃ kept : List Claim, kept.Sublist (list s i) ∧ 12 ≤ kept.length ∧
      ∀ x ∈ kept, ∀ y, rivals y → x.owner ≠ y.owner
    (reached s.here claim.start = true → outcome (.denied .late) ∧ t.arb.lists st = s.arb.lists st) ∧
    (reached s.here claim.start = false →
      (firm → outcome (.denied .conflict) ∧ t.arb.lists st = s.arb.lists st) ∧
      (¬ firm → full → outcome (.denied .capacity) ∧ t.arb.lists st = s.arb.lists st) ∧
      (¬ firm → ¬ full → outcome .placed ∧
        (∀ i, claim ∈ list t i ↔ set.1 ≤ i ∧ i ≤ set.2) ∧
        (∀ i x, x ≠ claim → (x ∈ list t i ↔ x ∈ list s i ∧ ∀ y, rivals y → x.owner ≠ y.owner)) ∧
        ∀ x, rivals x → t.hasClaims x.owner st = false ∧ s.Judged t x.owner ∧
          ∀ ro, s.find x.owner = some ro → (ro.outcome.get st).inProgress = true →
            ∃ ro', t.find x.owner = some ro' ∧ ro'.outcome.get st = .denied .conflict))

/-! ### The fragment table -/

/-- FTAB has opened a record for a tracker between `s` and `t` (R43, R44, R86): the tag is the first from the tag counter on, counting 65535
on to 1, that no live record carries; the record takes its values from the tracker and the ACTIVE slot, whose reference count goes up by
one; the tag counter stands at the value after the tag. -/
def State.Opens (s t : State) (x : Tracker) (tag : Nat) : Prop :=
  let nth (j : Nat) : Nat := (s.tab.tagCounter - 1 + j) % 65535 + 1
  (∃ d, d < 65535 ∧ tag = nth d ∧ ∀ j, j < d → nth j ∈ s.tab.tags) ∧ tag ∉ s.tab.tags ∧
  ∃ slot : Fin 3, s.rcp.slots[slot].state = .active ∧
    t.tab = { s.tab with
      tagCounter := if tag = 65535 then 1 else tag + 1
      records := s.tab.records ++ [{
        tag := tag, slot := slot, state := .opened
        flags := { overlength := false, continued := x.continued, lateVerdict := false, overridden := false }
        span := x.span, f := x.f, closing := none, peak := x.peak, classes := x.classes, verdict := none, forced := none
        route := none, column := none, outcome := ⟨.none, .none, .none⟩, departure := none, disposition := none
        tailGone := false }] } ∧
    t.rcp = { s.rcp with slots := s.rcp.slots.set slot { s.rcp.slots[slot] with refs := s.rcp.slots[slot].refs + 1 } }

/-- A record has been retired silently between `s` and `t` (R56, R57): it is gone from the table and the settled queue, counted nowhere, and
its recipe slot has lost it. -/
def State.Retires (s t : State) (r : Record) : Prop :=
  t.tab = { s.tab with
    records := s.tab.records.filter fun x => x.tag != r.tag
    queue := s.tab.queue.filter fun x => x != r.tag } ∧ s.SlotLost t r.slot

/-! ### Invariants -/

/-- Every line-wide parameter lies in its range and within its bonds, and the geometry meets its constraints (R97, R98, R99). -/
def Line.InRange (l : Line) : Prop :=
  (∀ p : LineParam, p.range.1 ≤ p.get l ∧ p.get l ≤ p.range.2) ∧ (∀ k : Fin 8, l.auxFn[k] ≤ 4) ∧
    l.pulseMin ≤ l.pulseMax ∧ l.lMax % 4 = 0 ∧
    l.lMax + 64 ≤ l.dDec ∧ l.dDec + 512 ≤ l.pMag ∧ l.pMag + l.magLen + 256 ≤ l.pHead

/-- Every per-recipe parameter lies in its range and within its bonds (R97, R98). -/
def RecipeParams.InRange (rotorMax : Nat) (q : RecipeParams) : Prop :=
  (∀ p : RecipeParam, (p.range rotorMax q).1 ≤ p.get q ∧ p.get q ≤ (p.range rotorMax q).2) ∧ q.tOff < q.tOn

/-- Every parameter lies in its range and within its bonds. -/
def State.ParamsInRange (s : State) : Prop :=
  s.line.InRange ∧ ∀ k : Fin 3, s.rcp.slots[k].recipe.params.InRange s.line.rotorMaxRpm

/-- A route entry has passed the check of R75. -/
def RouteEntry.Passed (e : RouteEntry) : Prop := e.valid = true ∧ e.priority ≤ 7

/-- Every route entry of a recipe, of a record's route and of a forced route has passed the check of R75. -/
def State.EntriesPassed (s : State) : Prop :=
  (∀ (k : Fin 3) (row : Fin 5) (c : Column), (s.rcp.slots[k].recipe.entry row c).Passed) ∧
    ∀ r ∈ s.tab.records, (∀ e ∈ r.route, e.Passed) ∧ ∀ e ∈ r.forced, e.Passed

/-- The heat accounts keep their bound (R127): none above HEAT_MAX + 94, and a segment whose drive is on is not COOLING and stands below
HEAT_MAX. The duties and the limit are those that R97 allows. -/
def State.HeatBounded (s : State) : Prop :=
  (∀ k : Fin 8, s.mag.segments[k].heat ≤ s.line.heatMax + 94 ∧
    (s.mag.segments[k].cooling = false → s.mag.segments[k].heat < s.line.heatMax) ∧
    (s.mag.segments[k].cooling = true → s.mag.segments[k].driven = false)) ∧
  5 ≤ s.line.dutyNorm ∧ 5 ≤ s.line.dutyHot ∧ 1000 ≤ s.line.heatMax

/-- No queue holds more frames than it has places (R65, R66, R164). -/
def State.QueuesFit (s : State) : Prop :=
  ∀ l : Link, (s.link l).rxQueue.length ≤ 4 ∧ (s.link l).txQueue.length ≤ txPlaces l

/-- The table keeps its shape (R41, R44, R51): at most 256 live records, no two of one tag, no tag 0; the settled queue holds each SETTLED
record's tag once and no other; and each bound tracker has an OPEN record of its own (R45). -/
def State.TableSound (s : State) : Prop :=
  s.tab.records.length ≤ 256 ∧ s.tab.tags.Nodup ∧ (∀ r ∈ s.tab.records, 1 ≤ r.tag ∧ r.tag ≤ 65535) ∧
  1 ≤ s.tab.tagCounter ∧ s.tab.tagCounter ≤ 65535 ∧
  s.tab.queue.Nodup ∧ (∀ tag, tag ∈ s.tab.queue ↔ ∃ r ∈ s.tab.records, r.tag = tag ∧ r.state = .settled) ∧
  (∀ t ∈ s.seg.trackers, ∀ tag, t.kind = .bound tag → ∃ r ∈ s.tab.records, r.tag = tag ∧ r.state = .opened) ∧
  (s.seg.trackers.map Tracker.kind).Pairwise fun a b => ∀ tag, a = .bound tag → b ≠ .bound tag

/-- The recipe slots keep their shape (R86, R91): one ACTIVE, at most one ARMED, at most one DRAINING; a slot's reference count is the
number of live records that carry it, above 0 while DRAINING and 0 unless ACTIVE or DRAINING; while a switch is pending a slot is ARMED
and none is DRAINING. -/
def State.SlotsSound (s : State) : Prop :=
  (∃ k : Fin 3, s.rcp.slots[k].state = .active ∧ ∀ j : Fin 3, s.rcp.slots[j].state = .active → j = k) ∧
  (∀ j k : Fin 3, s.rcp.slots[j].state = .armed → s.rcp.slots[k].state = .armed → j = k) ∧
  (∀ j k : Fin 3, s.rcp.slots[j].state = .draining → s.rcp.slots[k].state = .draining → j = k) ∧
  (∀ k : Fin 3, s.rcp.slots[k].refs = (s.tab.records.filter fun r => r.slot == k).length) ∧
  (∀ k : Fin 3, s.rcp.slots[k].state = .draining → 0 < s.rcp.slots[k].refs) ∧
  (∀ k : Fin 3, s.rcp.slots[k].state ≠ .active → s.rcp.slots[k].state ≠ .draining → s.rcp.slots[k].refs = 0) ∧
  (s.rcp.psw ≠ none → (∃ k : Fin 3, s.rcp.slots[k].state = .armed) ∧ ∀ k : Fin 3, s.rcp.slots[k].state ≠ .draining)

/-- The rotor's state hangs together (R137 to R141): the need set holds the tags of the records that R139 names and no others, the demand
is the one that R137 gives, the rotor state the one that R138 reads, the economy timer runs only with the need set empty, the spin-up watch
only in RAMPING_UP, and the stall watch only while both its conditions hold. -/
def State.RotorSound (s : State) : Prop :=
  (∀ tag, tag ∈ s.ecs.need ↔ ∃ r ∈ s.tab.records, r.tag = tag ∧ r.Needs) ∧ s.DemandIsSet ∧
  RotorReads s.line.rotorBand s.ecs.demandKind s.ecs.demandValue s.ecs.speed s.ecs.rotor ∧
  (s.ecs.economy ≠ none → s.ecs.need = []) ∧ (s.ecs.spinUp ≠ none → s.ecs.rotor = .rampingUp) ∧
  (s.ecs.stall ≠ none → s.ecs.Stalls)

/-- While E-stop is asserted every station is OFFLINE (R167). -/
def State.StopHolds (s : State) : Prop := s.lsig.estop = true → ∀ st : Station, s.avail st = .offline

/-- No resource list holds more than 12 claims (R103), no nozzle more than 4 pulses, and no pulse more than 4 owner tags (R151). -/
def State.ListsFit (s : State) : Prop :=
  (∀ (st : Station), ∀ l ∈ s.arb.lists st, l.length ≤ 12) ∧
    ∀ n : Fin 64, s.jet.pulses[n].length ≤ 4 ∧ ∀ p ∈ s.jet.pulses[n], p.owners.length ≤ 4

/-- What POS and SCAN hold lies in the ranges of the tables of chapters 1 and 2 (R4, R11, R20, R23, R24). -/
def State.MeasuresInRange (s : State) : Prop :=
  (s.pos.groupCount ≤ 63 ∧ s.pos.completionsSeen ≤ 2 ∧ 3200 ≤ s.pos.t64 ∧ s.pos.t64 ≤ 1048575 ∧ s.pos.backlash ≤ 4096) ∧
    s.line.backlashMax ≤ 4096 ∧ s.scan.settling ≤ 64 ∧
    ∀ k : Fin 32, s.scan.coils[k].k ≤ 1048575 ∧ s.scan.coils[k].stuck ≤ 1000 ∧
      (s.scan.coils[k].faulted = true → s.scan.coils[k].active = false)

end Sys2Proof.Machine
end

