-- ==== Sys2Proof/Certificates/Slice0/Obligations.lean ====
section
/-! DEFINITION. The statements about the ZG316. Each docstring names the rules of spec/ that the statement formalises; where a clause
rests on a choice of the model's own, it names the assumption log entry. -/

open Sys2Proof Sys2Proof.Machine

/-! ### The queue of commands, and what the part does by itself -/

/-- A step takes the command at the front of the queue and executes it against the rest (the model's queue: log entry 1). -/
def Obligations.StepTakesTheFrontCommand : Prop :=
  ∀ (c : Instr) (rest : List Instr) (s : State), step { s with pending := c :: rest } = exec c { s with pending := rest }

/-- With no command waiting, one of the things that the part itself has due comes about; with none due, the time counter adds one, and
at a multiple of 1,000 µs a heat step falls due (R6, R127; the taking of turns is the model's choice, log entries 1 and 3). What the part
has due is each watched time that is reached, a heat step, the opening and the closing of a pulse at its time, an E-stop level held for its
time and a gap inside a frame (R9, R155, R156, R163, R167), and for each link the request at the head of its receive queue while its
transmit queue has a free place, by the row that serves it (R66, R164); and nothing else. -/
def Obligations.IdleStepTakesADueEventOrTicks : Prop :=
  ∀ s : State, s.pending = [] →
    (s.internal = [] → step s = .next { s with
      pos := { s.pos with time := s.pos.time + 1 }
      mag := { s.mag with heatDue := s.mag.heatDue || decide ((s.pos.time + 1).toNat % 1000 = 0) } }) ∧
    (s.internal ≠ [] → ∃ c ∈ s.internal, ∃ n, step s = exec c { s with draws := n }) ∧
    ∀ c : Instr, c ∈ s.internal ↔ s.TimeReached c ∨
      ∃ (l : Link) (f : Frame) (rest : List Frame),
        (s.link l).rxQueue = f :: rest ∧ (s.link l).txQueue.length < txPlaces l ∧ c = rowOf l f

/-- Every command answers a next state: none ends in a fault or a refusal. It reaches the blocks of its own rule and no others (chapter 95):
everything else is as it was. -/
def Obligations.EveryCommandCompletesWithinItsBlocks : Prop :=
  ∀ (c : Instr) (s : State), ∃ t, exec c s = .next t ∧ Within (reach c) s t

/-! ### Reset -/

/-- The hard-reset values of every block (R17, R25, R39, R61, R68, R85, R101, R118, R134, R149, R161, R172): the reset state of the model
stands at the release of RESET with every input deasserted (log entry 2). A hard reset from any state leaves every block so, takes the
encoder's channel pair from the terminals, lets the E-stop filter run on the input, and starts a census of the three stations, in which each
whose OK input is asserted is READY at once (R165). With station E READY the demand is IDLE at 800 rpm, and the rotor ramps up from
standstill (R137, R138, R141). The commands that wait and the model's draws are left (log entry 11); the values that the tables do not give
are those of log entry 12. -/
def Obligations.HardResetPutsEveryBlockBack : Prop :=
  (let s := State.reset
  (s.pos.lastEdge = none ∧ s.pos.position = 0 ∧ s.pos.backlash = 0 ∧ s.pos.time = 0 ∧ s.pos.groupCount = 0 ∧ s.pos.completion = 0 ∧
    s.pos.completionsSeen = 0 ∧ s.pos.t64 = 1048575 ∧ s.pos.latestAdvance = 0 ∧ s.pos.belt = .stopped ∧ s.pos.stopTimer = none) ∧
  (∀ k : Fin 32, s.scan.coils[k] = { k := 0, active := false, stuck := 0, faulted := false }) ∧ s.scan.settling = 0 ∧
  s.seg.trackers = [] ∧ s.seg.notes = [] ∧
  s.tab.records = [] ∧ s.tab.queue = [] ∧ s.tab.tagCounter = 1 ∧
  (s.tab.totals.ferrous = 0 ∧ s.tab.totals.nonferrous = 0 ∧ s.tab.totals.eject = 0 ∧ s.tab.totals.residue = 0 ∧
    s.tab.totals.diverted = 0 ∧ s.tab.totals.cancelled = 0 ∧ s.tab.totals.untracked = 0) ∧
  (s.rcp.slots[0].state = .active ∧ s.rcp.slots[1].state = .free ∧ s.rcp.slots[2].state = .free ∧ s.rcp.psw = none ∧
    ∀ k : Fin 3, s.rcp.slots[k].refs = 0 ∧
      (∀ (row : Fin 5) (n : Fin 16), s.rcp.slots[k].recipe.rows[row][n] = ⟨.residue, .none, .none, .none, 0⟩) ∧
      s.rcp.slots[k].recipe.overlength = ⟨.residue, .none, .none, .none, 0⟩ ∧
      s.rcp.slots[k].recipe.params = {
        tOn := 200, tOff := 120, tMix := 150, gapScans := 3, fLo := 20, fHi := 70, sLo := 71, sHi := 100, nLo := 150, nHi := 230
        confMin := 60, nozMargin := 1, padUs := 1000, runRpm := 3000, idleRpm := 800, econEn := 1 }) ∧
  s.line = {
    encFilter := 2, stopMs := 250, t64Run := 64000, backlashMax := 1024, dDec := 2400, pMag := 4000, magLen := 1200, pHead := 12000
    dAir := 480, land := 400, lMax := 1600, locateTol := 16, magRiseMs := 12, magFallMs := 20, dutyNorm := 60, dutyHot := 30
    heatMax := 60000, flapTravelMs := 150, rotorMaxRpm := 4000, tachPpr := 4, spinupMs := 6000, econHoldMs := 30000, rotorBand := 3
    valveLat := 2500, pulseMin := 1500, pulseMax := 40000, jetGap := 1000, censusWaitMs := 500, clinkRate := 3, slinkRate := 2
    sightEn := 1, auxFn := #v[2, 0, 0, 0, 0, 0, 0, 0], alertMask := 0x3FF#10 } ∧
  (∀ st : Station, ∀ l ∈ s.arb.lists st, l = []) ∧
  (∀ k : Fin 8, s.mag.segments[k] =
    { power := .off, holding := [], completion := none, heat := 0, cooling := false, watches := [] }) ∧
  s.mag.hotInput = false ∧ s.mag.hotState = false ∧ s.mag.hotDebounce = none ∧ s.mag.okWatch = none ∧
  (s.ecs.speed = 0 ∧ s.ecs.lastTach = none ∧ s.ecs.tachTimeout = none ∧ s.ecs.demandKind = .none ∧ s.ecs.demandValue = 0 ∧ s.ecs.rotor = .stopped ∧
    s.ecs.need = [] ∧ s.ecs.economy = none ∧ s.ecs.spinUp = none ∧ s.ecs.stall = none ∧
    s.ecs.driveWatch = none ∧ s.ecs.flapWatch = none ∧
    ∀ k : Fin 4, s.ecs.flaps[k] = { position := .movingFar, completion := some 150000, watches := [] }) ∧
  (∀ n : Fin 64, s.jet.pulses[n] = []) ∧ s.jet.okWatch = none ∧
  (s.lsig.alerts = 0 ∧ s.lsig.linkCause = none ∧ s.lsig.estop = false ∧ s.lsig.estopFilter = none ∧ s.lsig.switchMark = none) ∧
  (∀ st : Station, s.lsig.stations.get st = { avail := .interrogating, wait := some 500000, acted := false }) ∧
  (∀ l : Link, (s.link l).rx.phase = .hunt ∧ (s.link l).rxQueue = [] ∧ (s.link l).txQueue = [] ∧
    (s.link l).rxRate = (match l with | .supervisor => 2 | .classifier => 3) ∧
    (s.link l).txRate = (match l with | .supervisor => 2 | .classifier => 3) ∧ (s.link l).rxRateDue = none ∧ (s.link l).txRateDue = none)) ∧
  ∀ (levels : Inputs) (s : State),
    let info (ok : Bool) : StationInfo :=
      if ok then { avail := .ready, wait := none, acted := false } else { avail := .interrogating, wait := some 500000, acted := false }
    exec (.hardReset levels) s = .next { State.reset with
      inputs := levels
      pos := { State.reset.pos with accA := levels.encA, accB := levels.encB }
      ecs :=
        if levels.driveOk && levels.flapOk then
          { State.reset.ecs with
            demandKind := .idle, demandValue := 800, rotor := .rampingUp, spinUp := some 12000000, stall := some 2000000 }
        else State.reset.ecs
      lsig := { State.reset.lsig with
        stations := { m := info levels.magOk, e := info (levels.driveOk && levels.flapOk), a := info levels.jetOk }
        estopFilter := if levels.estop then some 100 else none }
      draws := s.draws
      pending := s.pending }

/-! ### The encoder, position and time -/

/-- What an edge does that is no advance (R1 to R4). The glitch filter rejects an edge that comes less than ENC_FILTER µs after the last
accepted one: POS and every other block stay as they are, the levels of the terminals apart, which are part of the model's state (log entry
11). Of the accepted edges a null edge counts nothing; an illegal transition latches ENCODER; a reverse count is taken up by the backlash
count, or is discarded with REVERSE at BACKLASH_MAX; a forward count pays off backlash first. The accepted pair and the last accepted edge
time follow in every case. -/
def Obligations.EdgesThatDoNotAdvance : Prop :=
  ∀ (a b : Bool) (coils : Vector Sample 32) (s : State),
    (∀ e : W32, s.pos.lastEdge = some e → (s.now - e).toNat < s.line.encFilter →
      exec (.encoderEdge a b coils) s = .next { s with inputs := { s.inputs with encA := a, encB := b } }) ∧
    (s.EdgeAccepted →
      (a = s.pos.accA → b = s.pos.accB → exec (.encoderEdge a b coils) s = .next (s.sampled a b)) ∧
      (a ≠ s.pos.accA → b ≠ s.pos.accB → exec (.encoderEdge a b coils) s = .next { s.sampled a b with
        lsig := { s.lsig with alerts := s.lsig.alerts ||| 0x020#10 } }) ∧
      (s.Reverse a b → s.pos.backlash < s.line.backlashMax → exec (.encoderEdge a b coils) s = .next { s.sampled a b with
        pos := { (s.sampled a b).pos with backlash := s.pos.backlash + 1 } }) ∧
      (s.Reverse a b → s.line.backlashMax ≤ s.pos.backlash → exec (.encoderEdge a b coils) s = .next { s.sampled a b with
        lsig := { s.lsig with alerts := s.lsig.alerts ||| 0x010#10 } }) ∧
      (s.Forward a b → 0 < s.pos.backlash → exec (.encoderEdge a b coils) s = .next { s.sampled a b with
        pos := { (s.sampled a b).pos with backlash := s.pos.backlash - 1 } }))

/-- An advance (R3, R8, R10 to R12): the position adds one, the latest advance time is the present time, the stop timer runs afresh, and the
group count adds one; the 64th advance completes a group, which sets T64 from the second completion on, held in 3,200..1,048,575, and the
belt state with it. A STOPPED belt becomes CREEPING. What falls at the new position then comes about, each thing once: the completion of a
group, the scan of a multiple of 4, the points of the records that are still ahead of them (R43, R45, R50), the points of the claims (R102)
and the recipe switch (R92). A front departure comes before the tail departure of its record (R47), a start before the release and the end
of its action (R102); any other order is possible, and free values pick one (log entry 3). A record's tail point is ahead until `tailGone`
marks it passed (log entry 5). -/
def Obligations.AdvanceMovesThePosition : Prop :=
  (∀ (a b : Bool) (coils : Vector Sample 32) (s : State), s.EdgeAccepted → s.Forward a b → s.pos.backlash = 0 → s.pos.groupCount ≤ 63 →
    ∃ t, exec (.encoderEdge a b coils) s = .next t ∧
      t.pos.position = s.pos.position + 1 ∧ t.pos.latestAdvance = s.pos.time ∧
      t.pos.stopTimer = some (s.pos.time + BitVec.ofNat 32 (s.line.stopMs * 1000)) ∧
      t.pos.lastEdge = some s.pos.time ∧ t.pos.accA = a ∧ t.pos.accB = b ∧ t.pos.backlash = 0 ∧ t.pos.time = s.pos.time ∧
      (s.pos.groupCount < 63 →
        t.pos.groupCount = s.pos.groupCount + 1 ∧ t.pos.t64 = s.pos.t64 ∧ t.pos.completion = s.pos.completion ∧
        t.pos.completionsSeen = s.pos.completionsSeen ∧
        t.pos.belt = if s.pos.belt = .stopped then .creeping else s.pos.belt) ∧
      (s.pos.groupCount = 63 →
        t.pos.groupCount = 0 ∧ t.pos.completion = s.pos.time ∧ t.pos.completionsSeen = min 2 (s.pos.completionsSeen + 1) ∧
        (s.pos.completionsSeen = 0 →
          t.pos.t64 = s.pos.t64 ∧ t.pos.belt = if s.pos.belt = .stopped then .creeping else s.pos.belt) ∧
        (0 < s.pos.completionsSeen →
          t.pos.t64 = min 1048575 (max 3200 (s.pos.time - s.pos.completion).toNat) ∧
          t.pos.belt = if t.pos.t64 ≤ s.line.t64Run then .running else .creeping))) ∧
  ∀ (a b : Bool) (coils : Vector Sample 32) (s : State), s.EdgeAccepted → s.Forward a b → s.pos.backlash = 0 → s.pos.groupCount ≤ 63 →
    let here : W32 := s.pos.position + 1
    let u : State := { s.sampled a b with pos := { (s.sampled a b).pos with
      position := here, latestAdvance := s.pos.time, stopTimer := some (s.pos.time + BitVec.ofNat 32 (s.line.stopMs * 1000))
      groupCount := s.pos.groupCount + 1, belt := if s.pos.belt = .stopped then .creeping else s.pos.belt } }
    let at' (x : W32) (counts : Nat) : Prop := x + BitVec.ofNat 32 counts = here
    (∃ order : List (Event × Nat), (order.map Prod.fst).Perm u.events ∧ (order.Pairwise fun x y => y.1.before x.1 = false) ∧
      exec (.encoderEdge a b coils) s = .next (order.foldl (fun v x => ({ v with draws := x.2 } : State).bringAbout coils x.1) u)) ∧
    (Event.group ∈ u.events ↔ s.pos.groupCount = 63) ∧ (Event.scan ∈ u.events ↔ here.toNat % 4 = 0) ∧
    (Event.switch ∈ u.events ↔ s.rcp.psw = some here) ∧
    ∀ tag : Nat,
      (Event.decision tag ∈ u.events ↔
        ∃ r ∈ s.tab.records, r.tag = tag ∧ (r.state = .opened ∨ r.state = .pending) ∧ at' r.f s.line.dDec) ∧
      (Event.front tag ∈ u.events ↔
        ∃ r ∈ s.tab.records, r.tag = tag ∧ (r.state = .opened ∨ r.state = .pending ∨ r.state = .routed) ∧ at' r.f s.line.pHead) ∧
      (Event.tail tag ∈ u.events ↔ ∃ r ∈ s.tab.records, r.tag = tag ∧ (r.state = .pending ∨ r.state = .routed ∨ r.state = .airborne) ∧
        r.tailGone = false ∧ ∃ c, r.closing = some c ∧ at' c.t s.line.pHead) ∧
      (Event.release tag ∈ u.events ↔ ∃ st, ∃ l ∈ s.arb.lists st, ∃ c ∈ l, c.owner = tag ∧ c.release = some here) ∧
      ∀ st : Station,
        (Event.begins tag st ∈ u.events ↔ ∃ l ∈ s.arb.lists st, ∃ c ∈ l, c.owner = tag ∧ c.start = here) ∧
        (Event.ends tag st ∈ u.events ↔ ∃ l ∈ s.arb.lists st, ∃ c ∈ l, c.owner = tag ∧ c.stop = here)

/-- The position counter moves only forward, by one at an advance, and only RESTART and a hard reset set it to 0 (R5); no command moves
the time counter but a hard reset, which sets it to 0 (R6). -/
def Obligations.CountersMoveOnlyForward : Prop :=
  ∀ (c : Instr) (s t : State), exec c s = .next t →
    ((∀ levels, c ≠ .hardReset levels) → t.pos.time = s.pos.time) ∧
    (∀ levels, c = .hardReset levels → t.pos.time = 0 ∧ t.pos.position = 0) ∧
    ((∀ levels, c ≠ .hardReset levels) → c ≠ .restart → t.pos.position = s.pos.position ∨
      t.pos.position = s.pos.position + 1 ∧ s.EdgeAccepted ∧ s.pos.backlash = 0 ∧
        ∃ a b coils, c = .encoderEdge a b coils ∧ s.Forward a b) ∧
    (c = .restart → t.pos.position = s.pos.position ∨ t.pos.position = 0)

/-! ### A scan -/

/-- A scan is made at an advance to a multiple of 4 and at no other (R10), and judges each coil by R20, R21, R23 and R24, with the
parameters of the ACTIVE slot: a FAULTED coil is out of service; a NORMAL one whose stuck count reaches 1,000 becomes FAULTED and COIL
latches; while the settling count is below 64 the baseline is loaded and then follows; from then on a coil is judged by the activity test,
and only an INACTIVE coil's baseline follows. A recipe switch at the same position is left out: either order is possible there (R8). -/
def Obligations.ScanJudgesEachCoil : Prop :=
  ∀ (a b : Bool) (coils : Vector Sample 32) (s t : State), s.EdgeAccepted → s.Forward a b → s.pos.backlash = 0 →
    s.rcp.psw ≠ some (s.here + 1) → exec (.encoderEdge a b coils) s = .next t →
      ((s.here + 1).toNat % 4 ≠ 0 → t.scan = s.scan) ∧
      ((s.here + 1).toNat % 4 = 0 → t.scan.settling = min 64 (s.scan.settling + 1) ∧
        ∀ k : Fin 32,
          let c := s.scan.coils[k]
          let amp := coils[k].amp.toNat
          let excess := amp - c.k / 256
          let follow := min 1048575 (c.k + amp - c.k / 256)
          let stuck := if amp = 0 ∨ amp = 4095 then c.stuck + 1 else 0
          (c.faulted = true → t.scan.coils[k] = { c with active := false }) ∧
          (c.faulted = false → 1000 ≤ stuck → t.scan.coils[k] = { c with active := false, stuck := 1000, faulted := true } ∧
            t.latched .coil = true) ∧
          (c.faulted = false → stuck < 1000 → s.scan.settling = 0 →
            t.scan.coils[k] = { k := 256 * amp, active := false, stuck := stuck, faulted := false }) ∧
          (c.faulted = false → stuck < 1000 → 0 < s.scan.settling → s.scan.settling < 64 →
            t.scan.coils[k] = { k := follow, active := false, stuck := stuck, faulted := false }) ∧
          (c.faulted = false → stuck < 1000 → 64 ≤ s.scan.settling →
            t.scan.coils[k] =
              if (if c.active then s.activeParams.tOff < excess else s.activeParams.tOn ≤ excess) then
                { k := c.k, active := true, stuck := stuck, faulted := false }
              else { k := follow, active := false, stuck := stuck, faulted := false }))

/-- The phase class of R22: a phase is tested against the ferrous window, then the stainless one, then the nonferrous one, and takes the
class of the first that holds it, UNCLASSED if none does. A window holds the phases from its low limit to its high limit, both included; if
the low limit is above the high one it wraps over 255 to 0. Each scan gives each coil the class of its phase in the windows of the ACTIVE
slot, and SEG works through what the scan reads of the coils: the activity after the scan, the excess against the baseline before it, the
phase and the class. -/
def Obligations.PhaseClassIsTheFirstWindowsClass : Prop :=
  (∀ (p : RecipeParams) (phase : Nat), phase ≤ 255 →
    let holds (lo hi : Nat) : Prop := (lo ≤ hi ∧ lo ≤ phase ∧ phase ≤ hi) ∨ (hi < lo ∧ (lo ≤ phase ∨ phase ≤ hi))
    (holds p.fLo p.fHi → phaseClass p phase = some .ferrous) ∧
    (¬ holds p.fLo p.fHi → holds p.sLo p.sHi → phaseClass p phase = some .stainless) ∧
    (¬ holds p.fLo p.fHi → ¬ holds p.sLo p.sHi → holds p.nLo p.nHi → phaseClass p phase = some .nonferrous) ∧
    (¬ holds p.fLo p.fHi → ¬ holds p.sLo p.sHi → ¬ holds p.nLo p.nHi → phaseClass p phase = none)) ∧
  ∀ (samples : Vector Sample 32) (s : State),
    let p := s.activeParams
    let t := s.bringAbout samples .scan
    ∃ (readings : List Reading) (u : State), Within [.scan, .alerts] s u ∧ t = u.segment p readings ∧ t.scan = u.scan ∧
      readings.length = 32 ∧ ∀ k : Fin 32, ∃ r, readings[k.val]? = some r ∧
        r.active = t.scan.coils[k].active ∧ r.phase = samples[k].phase.toNat ∧ r.metal = phaseClass p samples[k].phase.toNat ∧
        r.excess = if t.scan.coils[k].faulted then 0 else samples[k].amp.toNat - s.scan.coils[k].k / 256

/-- The runs of a scan and what SEG does with one (R26, R27, R28, R37, R42, R43, R44). The runs are the greatest stretches of adjacent
ACTIVE coils, in order of coil number. A run that no open tracker's span, widened by one coil, meets opens a tracker of its own, continued
where it meets a widened note; FTAB gives it a record while a table slot is free, or by evicting the head of the settled queue, and else it
is a shadow that counts, and TABLE_FULL latches; the evicted tag leaves the need set (R139). A run that one tracker meets is taken by it,
and its record follows. Taking a run samples its coils: the span grows by the run, the peak is the largest excess with its phase, an equal
one leaving it as it is (of two coils of one run the lower is sampled first, the model's choice, log entry 14), and a class of an excess of
T_MIX or more joins the classes seen. -/
def Obligations.RunsOpenTrackersOrAreTaken : Prop :=
  (∀ actives : List Bool,
    ((runsFrom 0 none actives).Pairwise fun a b => a.last + 1 < b.first) ∧
    ∀ run : Span, run ∈ runsFrom 0 none actives ↔ run.first ≤ run.last ∧
      (∀ i, run.first ≤ i → i ≤ run.last → actives.getD i false = true) ∧
      (∀ i, i + 1 = run.first → actives.getD i false = false) ∧ actives.getD (run.last + 1) false = false) ∧
  (∀ (tMix : Nat) (readings : List Reading) (run : Span) (x : Tracker), run.first ≤ run.last → run.last < readings.length →
    let y := x.take tMix readings run
    let sampled (r : Reading) (i : Nat) : Prop := run.first ≤ i ∧ i ≤ run.last ∧ readings[i]? = some r
    let seen (m : Metal) : Prop := ∃ r i, sampled r i ∧ r.metal = some m ∧ tMix ≤ r.excess
    y = { x with span := y.span, peak := y.peak, classes := y.classes } ∧
    y.span.first = min x.span.first run.first ∧ y.span.last = max x.span.last run.last ∧
    ((∀ r i, sampled r i → r.excess ≤ x.peak.excess) → y.peak = x.peak) ∧
    (∀ r i, sampled r i → x.peak.excess < r.excess → (∀ q j, sampled q j → q.excess ≤ r.excess) →
      (∀ q j, sampled q j → j < i → q.excess < r.excess) → y.peak = { excess := r.excess, phase := r.phase }) ∧
    (y.classes.ferrous = true ↔ x.classes.ferrous = true ∨ seen .ferrous) ∧
    (y.classes.nonferrous = true ↔ x.classes.nonferrous = true ∨ seen .nonferrous) ∧
    (y.classes.stainless = true ↔ x.classes.stainless = true ∨ seen .stainless)) ∧
  ∀ (tMix : Nat) (readings : List Reading) (notes : List Span) (run : Span) (open' : List Live) (s : State),
    (∃ k : Fin 3, s.rcp.slots[k].state = .active ∧ ∀ j : Fin 3, s.rcp.slots[j].state = .active → j = k) → s.tab.tags.Nodup →
    s.tab.records.length ≤ 256 → 1 ≤ s.tab.tagCounter → s.tab.tagCounter ≤ 65535 →
    let meets (span : Span) : Prop := run.first ≤ span.last + 1 ∧ span.first ≤ run.last + 1
    let result := State.takeRun tMix readings notes run (open', s)
    ((∀ y ∈ open', ¬ meets y.tracker.span) → ∃ (x : Tracker) (t : State),
      result = (open' ++ [{ tracker := x, took := true }], t) ∧
      (∃ continued : Bool, (continued = true ↔ ∃ n ∈ notes, meets n) ∧ { x with kind := .shadow true } = Tracker.take tMix readings run
        { kind := .shadow true, span := run, f := s.here, lastSeen := s.here, gap := 0, peak := { excess := 0, phase := 0 }
          classes := { ferrous := false, nonferrous := false, stainless := false }, continued := continued }) ∧
      (s.tab.records.length < 256 → ∃ tag, x.kind = .bound tag ∧ s.Opens t x tag ∧ Within [.tab, .slots] s t) ∧
      (∀ (head : Nat) (later : List Nat) (r : Record), s.tab.records.length = 256 → s.tab.queue = head :: later → s.find head = some r →
        ∃ (tag : Nat) (u : State), x.kind = .bound tag ∧ s.Retires u r ∧ u.Opens t x tag ∧ Within [.tab, .slots, .ecs] s t ∧
          head ∉ t.ecs.need ∧ s.NeedFollows t head) ∧
      (s.tab.records.length = 256 → s.tab.queue = [] →
        x.kind = .shadow true ∧ t = { s with lsig := { s.lsig with alerts := s.lsig.alerts ||| 0x001#10 } })) ∧
    ∀ (before behind : List Live) (y : Live), open' = before ++ y :: behind → meets y.tracker.span →
      (∀ x ∈ before ++ behind, ¬ meets x.tracker.span) → ∃ t : State,
        result = (before ++ behind ++ [{ tracker := y.tracker.take tMix readings run, took := true }], t) ∧
        ((∀ tag, y.tracker.kind ≠ .bound tag) → t = s) ∧
        ∀ tag r, y.tracker.kind = .bound tag → s.find tag = some r →
          let x := y.tracker.take tMix readings run
          t.find tag = some { r with
            span := x.span, peak := x.peak, classes := x.classes
            flags := { r.flags with continued := r.flags.continued || x.continued } } ∧
          Within [.tab] s t

/-- A merge (R29, R30, R31, R57). The survivor is the tracker that the table of R30 chooses over each of the others: a bound one over a
shadow, the older F, the lower first coil. It keeps its F and its tag, and takes the union of the spans and of the classes, the largest
peak (its own where another is equal), the latest last seen, the smallest gap count, continued where any is, and as a shadow counts where
any does. The losers' records are retired and counted nowhere, their tags leave the need set (R139), and the survivor's record follows. A
run that meets several trackers is
taken by the survivor of their merge, and once all runs are taken no two trackers meet or adjoin. The fronts lie within a quarter of the
counter's range behind the present position, and no two of one front and kind have one first coil. -/
def Obligations.MetTrackersMergeIntoTheSurvivor : Prop :=
  (∀ (x : Live) (xs : List Live) (s : State),
    (∀ y ∈ x :: xs, (s.here - y.tracker.f).toNat < 2 ^ 30 ∧ (s.here - y.tracker.lastSeen).toNat < 2 ^ 30) →
    ((x :: xs).Pairwise fun a b => a.tracker.isBound = b.tracker.isBound → a.tracker.f = b.tracker.f →
      a.tracker.span.first ≠ b.tracker.span.first) →
    ((x :: xs).Pairwise fun a b => ∀ tag, a.tracker.kind = .bound tag → b.tracker.kind ≠ .bound tag) →
    (∀ y ∈ x :: xs, ∀ tag, y.tracker.kind = .bound tag → ∃ r, s.find tag = some r) →
    let age (w : W32) : Nat := (s.here - w).toNat
    let m := (s.mergeGroup x xs).1.tracker
    let t := (s.mergeGroup x xs).2
    (s.mergeGroup x xs).1.took = (x :: xs).any (fun y => y.took) ∧
    ∃ best ∈ x :: xs,
      (∀ y ∈ x :: xs, y = best ∨ (best.tracker.isBound = true ∧ y.tracker.isBound = false) ∨
        (best.tracker.isBound = y.tracker.isBound ∧ (age y.tracker.f < age best.tracker.f ∨
          (y.tracker.f = best.tracker.f ∧ best.tracker.span.first < y.tracker.span.first)))) ∧
      m.f = best.tracker.f ∧ (∀ tag, best.tracker.kind = .bound tag → m.kind = .bound tag) ∧
      (best.tracker.isBound = false → ∃ counts, m.kind = .shadow counts ∧
        (counts = true ↔ ∃ y ∈ x :: xs, y.tracker.kind = .shadow true)) ∧
      (∀ c, (∃ y ∈ x :: xs, y.tracker.span.first ≤ c) ↔ m.span.first ≤ c) ∧
      (∀ c, (∃ y ∈ x :: xs, c ≤ y.tracker.span.last) ↔ c ≤ m.span.last) ∧
      (∃ y ∈ x :: xs, m.lastSeen = y.tracker.lastSeen) ∧ (∀ y ∈ x :: xs, age m.lastSeen ≤ age y.tracker.lastSeen) ∧
      (∃ y ∈ x :: xs, m.gap = y.tracker.gap) ∧ (∀ y ∈ x :: xs, m.gap ≤ y.tracker.gap) ∧
      (∃ y ∈ x :: xs, m.peak = y.tracker.peak) ∧ (∀ y ∈ x :: xs, y.tracker.peak.excess ≤ m.peak.excess) ∧
      (m.peak.excess = best.tracker.peak.excess → m.peak = best.tracker.peak) ∧
      (m.classes.ferrous = true ↔ ∃ y ∈ x :: xs, y.tracker.classes.ferrous = true) ∧
      (m.classes.nonferrous = true ↔ ∃ y ∈ x :: xs, y.tracker.classes.nonferrous = true) ∧
      (m.classes.stainless = true ↔ ∃ y ∈ x :: xs, y.tracker.classes.stainless = true) ∧
      (m.continued = true ↔ ∃ y ∈ x :: xs, y.tracker.continued = true) ∧
      Within [.tab, .slots, .ecs, .draws] s t ∧ t.tab.totals = s.tab.totals ∧ t.tab.tagCounter = s.tab.tagCounter ∧
      (∀ tag, tag ∈ t.tab.tags ↔ tag ∈ s.tab.tags ∧ ∀ y ∈ x :: xs, y.tracker.kind = .bound tag → best.tracker.kind = .bound tag) ∧
      ((∃ k : Fin 3, s.rcp.slots[k].state = .active) → s.NeedMoves t) ∧
      (∀ y ∈ x :: xs, ∀ tag, y.tracker.kind = .bound tag → best.tracker.kind ≠ .bound tag → tag ∉ t.ecs.need) ∧
      (∀ y r, (x :: xs).Perm [best, y] → (∃ tag, y.tracker.kind = .bound tag ∧ s.find tag = some r) → s.SlotLost t r.slot) ∧
      (∀ tag r, best.tracker.kind = .bound tag → s.find tag = some r → t.find tag = some { r with
        span := m.span, peak := m.peak, classes := m.classes
        flags := { r.flags with continued := r.flags.continued || m.continued } })) ∧
  (∀ (tMix : Nat) (readings : List Reading) (notes : List Span) (run : Span) (open' : List Live) (s : State) (x : Live) (xs : List Live),
    (open'.filter fun y => y.tracker.span.near run) = x :: xs →
    (State.takeRun tMix readings notes run (open', s)).1 = (open'.filter fun y => !y.tracker.span.near run) ++
      [{ tracker := (s.mergeGroup x xs).1.tracker.take tMix readings run, took := true }]) ∧
  ∀ (w : List Live × State), (∀ y ∈ w.1, y.tracker.span.first ≤ y.tracker.span.last) →
    (State.mergeAdjoining w).1.Pairwise (fun a b => a.tracker.span.last + 1 < b.tracker.span.first) ∧
    ∀ c, (∃ y ∈ w.1, y.tracker.span.first ≤ c ∧ c ≤ y.tracker.span.last) →
      ∃ y ∈ (State.mergeAdjoining w).1, y.tracker.span.first ≤ c ∧ c ≤ y.tracker.span.last

/-- The end of a scan for each tracker (R32 to R36, R45, R74, R139). After the merges each tracker that took a run has gap count 0 and the
scan position as its last seen; any other counts one more gap. Then, in order of their first coils, a tracker closes that has reached
GAP_SCANS, that has taken a run and reached L_MAX (overlength, with a continuation note), or that has reached L_MAX inside a gap; any other
stays open. A bound one hands its record over: PENDING, with T, L = T - F + 4 and the signature of the classes seen, the OVERLENGTH flag if
so, a SIGHTING notice if SIGHT_EN is 1 and there is a place, and the rotor needed early for NONFERROUS, STAINLESS and MIXED: a need set
that so becomes non-empty stops the economy timer and makes ECS evaluate the demand (R137, R140). A shadow counts UNTRACKED or nothing. -/
def Obligations.TrackersCloseAtTheEndOfAScan : Prop :=
  (∀ (p : RecipeParams) (readings : List Reading) (s : State),
    let opened := (s.seg.trackers.map fun x => ({ tracker := x, took := false } : Live), s)
    let m := State.mergeAdjoining ((runsFrom 0 none (readings.map fun r => r.active)).foldl
      (fun w run => State.takeRun p.tMix readings s.seg.notes run w) opened)
    ∃ order : List Live, order.Perm m.1 ∧ (order.Pairwise fun a b => a.tracker.span.first ≤ b.tracker.span.first) ∧
      s.segment p readings = order.foldl (fun v x => v.closeStep p.gapScans s.line.lMax (x.age s.here))
        { m.2 with seg := { trackers := [], notes := [] } }) ∧
  ∀ (gapScans lMax : Nat) (x : Live) (s : State), 1 ≤ gapScans →
    let t := s.closeStep gapScans lMax (x.age s.here)
    let k := x.tracker
    let gap := if x.took then 0 else k.gap + 1
    let seen := if x.took then s.here else k.lastSeen
    let long := lMax ≤ (s.here - k.f + 4).toNat
    let closes : Prop := gapScans ≤ gap ∨ long
    let overlong : Prop := x.took = true ∧ long
    let tail : W32 := if x.took then s.here else k.lastSeen
    let n := (if k.classes.ferrous then 1 else 0) + (if k.classes.nonferrous then 1 else 0) + (if k.classes.stainless then 1 else 0)
    let signature : Signature :=
      if n = 0 then .faint else if 1 < n then .mixed
      else if k.classes.ferrous then .ferrous else if k.classes.nonferrous then .nonferrous else .stainless
    (¬ closes → t = { s with seg := { s.seg with trackers := s.seg.trackers ++ [{ k with gap := gap, lastSeen := seen }] } }) ∧
    (closes → t.seg.trackers = s.seg.trackers ∧ (overlong → t.seg.notes = s.seg.notes ++ [k.span]) ∧ (¬ overlong → t.seg.notes = s.seg.notes)) ∧
    (closes → k.kind = .shadow false → t = { s with seg := t.seg }) ∧
    (closes → k.kind = .shadow true → t = { s with
      seg := t.seg
      tab := { s.tab with totals := { s.tab.totals with untracked := min 4294967295 (s.tab.totals.untracked + 1) } } }) ∧
    ∀ tag r, closes → k.kind = .bound tag → s.find tag = some r → r.state = .opened →
      let long' : Bool := r.flags.overlength || decide overlong
      t.find tag = some { r with
        state := .pending, closing := some { t := tail, length := (tail - k.f + 4).toNat, signature := signature }
        flags := { r.flags with overlength := long' } } ∧
      (tag ∈ t.ecs.need ↔ signature = .nonferrous ∨ signature = .stainless ∨ signature = .mixed) ∧ s.NeedFollows t tag ∧
      Within [.tab, .ecs, .seg, .clink] s t ∧ t.tab.totals = s.tab.totals ∧ t.tab.queue = s.tab.queue ∧
      (s.line.sightEn = 1 → s.clink.txQueue.length < 32 → t.clink = { s.clink with txQueue := s.clink.txQueue ++ [{
        kind := 0xC0#8
        body := le 2 tag ++ le 4 r.f.toNat ++ le 4 tail.toNat ++ le 1 r.span.first ++ le 1 r.span.last ++
          [match signature with
            | .ferrous => 0
            | .nonferrous => 1
            | .stainless => 2
            | .mixed => 3
            | .faint => 4] ++ le 1 r.slot.val
        rateAfter := none }] }) ∧
      (s.line.sightEn ≠ 1 ∨ 32 ≤ s.clink.txQueue.length → t.clink = s.clink)

/-! ### Times reached -/

/-- What a time that is reached brings about, clause by clause: the stop timer's expiry stops the belt (R12); a segment's completion ends
its rise or its fall, and a rise that becomes ON marks every open hold-off watch (R122, R125); a flap's completion ends its travel (R144);
the spin-up watch latches ROTOR and does no more (R141); an INTERROGATING station whose census wait is reached becomes ABSENT with STATION
(R165), one in any other state keeping it; a level of ESTOP away from the E-stop state starts the 100 µs filter, and a change back discards
it; E-stop is released once the input has been deasserted for 100 µs, and the stations stay as they are (R167); SWITCH_MARK ends at its time
(R169). -/
def Obligations.WatchedTimesActWhenReached : Prop :=
  ∀ s : State,
    (due s.now s.pos.stopTimer = true → exec .stopTimerExpiry s = .next { s with
      pos := { s.pos with belt := .stopped, t64 := 1048575, groupCount := 0, completionsSeen := 0, stopTimer := none } }) ∧
    (∀ k : Fin 8, due s.now s.mag.segments[k].completion = true →
      (s.mag.segments[k].power = .rising → exec (.segmentCompletion k) s = .next { s with
        mag := { s.mag with segments := s.mag.segments.set k { s.mag.segments[k] with
          power := .on, completion := none, watches := s.mag.segments[k].watches.map fun w => { w with breached := true } } } }) ∧
      (s.mag.segments[k].power = .falling → exec (.segmentCompletion k) s = .next { s with
        mag := { s.mag with segments := s.mag.segments.set k { s.mag.segments[k] with power := .off, completion := none } } })) ∧
    (∀ k : Fin 4, due s.now s.ecs.flaps[k].completion = true →
      (s.ecs.flaps[k].position = .movingNear → exec (.flapCompletion k) s = .next { s with
        ecs := { s.ecs with flaps := s.ecs.flaps.set k { s.ecs.flaps[k] with position := .atNear, completion := none } } }) ∧
      (s.ecs.flaps[k].position = .movingFar → exec (.flapCompletion k) s = .next { s with
        ecs := { s.ecs with flaps := s.ecs.flaps.set k { s.ecs.flaps[k] with position := .atFar, completion := none } } })) ∧
    (due s.now s.ecs.spinUp = true → exec .spinUpWatchExpiry s = .next { s with
      ecs := { s.ecs with spinUp := none }, lsig := { s.lsig with alerts := s.lsig.alerts ||| 0x080#10 } }) ∧
    (∀ st : Station, s.avail st = .interrogating → due s.now (s.lsig.stations.get st).wait = true →
      exec (.censusWaitExpiry st) s = .next { s with lsig := { s.lsig with
        stations := s.lsig.stations.set st { (s.lsig.stations.get st) with avail := .absent, wait := none }
        alerts := s.lsig.alerts ||| 0x004#10 } }) ∧
    (∀ st : Station, s.avail st ≠ .interrogating → exec (.censusWaitExpiry st) s = .next s) ∧
    (∀ level, level ≠ s.inputs.estop → exec (.estopInputChange level) s = .next { s with
      inputs := { s.inputs with estop := level }
      lsig := { s.lsig with estopFilter := if level = s.lsig.estop then none else some (s.now + 100) } }) ∧
    (due s.now s.lsig.estopFilter = true → s.inputs.estop = false → s.avail .e ≠ .ready →
      ∃ t, exec .estopReleased s = .next t ∧ t.lsig = { s.lsig with estop := false, estopFilter := none } ∧
        t.ecs.demandKind = .none ∧ t.ecs.demandValue = 0 ∧ Within [.estop, .ecs] s t) ∧
    (due s.now s.lsig.switchMark = true → exec .switchMarkEnd s = .next { s with lsig := { s.lsig with switchMark := none } })

/-- One heat step (R127, R129, R130): a segment whose drive is on gains 100 - L, any other loses L and not below 0, L being DUTY_NORM, or
while the hot state is asserted the lower of the two duties. A segment that reaches HEAT_MAX becomes COOLING and falls for MAG_FALL_MS,
THERMAL latches, and each LIFT BEGUN on it loses its claims and is CUT(THERMAL), on every segment of its set: the others let go of its tag,
and fall if they hold no other (R124). The settle test is put to each record so cut and to no other (R49, log entry 5). COOLING ends at
half of HEAT_MAX or below. That every
segment driven at the step gains, although another segment's limit cuts a lift on it, is log entry 7 (DEDUCED). The hot input is the OR of
the AUX terminals of function 1: a change of it away from the hot state starts the 50 ms debounce, a change back withdraws it, and at the
debounce time the hot state takes the input's value (R128). -/
def Obligations.HeatStepKeepsTheAccountsByTheHotState : Prop :=
  (∀ s : State, s.mag.heatDue = true → ∃ t, exec .heatStep s = .next t ∧ t.mag.heatDue = false ∧
    ∀ k : Fin 8,
      let duty := if s.mag.hotState then min s.line.dutyNorm s.line.dutyHot else s.line.dutyNorm
      let g := s.mag.segments[k]
      let g' := t.mag.segments[k]
      (g.driven = true → g'.heat = g.heat + (100 - duty)) ∧
      (g.driven = false → g'.heat = g.heat - duty ∧ g'.power = g.power ∧ g'.completion = g.completion ∧
        (g'.cooling = true ↔ g.cooling = true ∧ s.line.heatMax / 2 < g.heat - duty)) ∧
      (g.driven = true → g.heat + (100 - duty) < s.line.heatMax → g'.cooling = g.cooling) ∧
      (g.driven = true → s.line.heatMax ≤ g.heat + (100 - duty) →
        g'.cooling = true ∧ g'.power = .falling ∧
        g'.completion = some (s.now + BitVec.ofNat 32 (s.line.magFallMs * 1000)) ∧ t.latched .thermal = true ∧
        ∀ tag ∈ s.liftsOn k, t.hasClaims tag .m = false ∧
          ∀ r, s.find tag = some r → r.outcome.m.inProgress = true → ∃ r', t.find tag = some r' ∧ r'.outcome.m = .cut .thermal) ∧
      s.LiftsCut t fun j => s.mag.segments[j].driven = true ∧ s.line.heatMax ≤ s.mag.segments[j].heat + (100 - duty)) ∧
  (∀ (levels : BitVec 8) (v : Bool) (s : State), (v = true ↔ ∃ k : Fin 8, s.line.auxFn[k] = 1 ∧ levels.getLsbD k = true) →
    (v = s.mag.hotInput → exec (.hotInputChange levels) s = .next { s with inputs := { s.inputs with aux := levels } }) ∧
    (v ≠ s.mag.hotInput → exec (.hotInputChange levels) s = .next { s with
      inputs := { s.inputs with aux := levels }
      mag := { s.mag with hotInput := v, hotDebounce := if v = s.mag.hotState then none else some (s.now + 50000) } })) ∧
  ∀ s : State, due s.now s.mag.hotDebounce = true →
    exec .hotDebounceExpiry s = .next { s with mag := { s.mag with hotState := s.mag.hotInput, hotDebounce := none } }

/-- The OK inputs (R132, R146, R158, R165): while its station is READY a deassertion sets a watch 20 ms ahead and an assertion withdraws it,
for each of station E's two inputs alone; an INTERROGATING station whose input becomes asserted is READY, its wait withdrawn, and station
E's demand follows R137 with the watches of R141, where the rotor's state hangs together before it (RotorSound). A station that is ABSENT,
OFFLINE or FAULTED keeps its state at an assertion, and an INTERROGATING one at a deassertion, and nothing else changes. -/
def Obligations.OkInputsDriveWatchAndCensus : Prop :=
  ∀ s : State,
    let watch (level : Bool) : Option W32 := if level then none else some (s.now + 20000)
    (∀ level, level ≠ s.inputs.magOk →
      (s.avail .m = .ready → exec (.magOkChange level) s = .next { s with
        inputs := { s.inputs with magOk := level }, mag := { s.mag with okWatch := watch level } }) ∧
      (s.avail .m = .interrogating → level = true → ∃ t, exec (.magOkChange level) s = .next t ∧
        t.inputs = { s.inputs with magOk := true } ∧
        t.lsig = { s.lsig with stations := { s.lsig.stations with m := { s.lsig.stations.m with avail := .ready, wait := none } } }) ∧
      (s.avail .m ≠ .ready → s.avail .m ≠ .interrogating ∨ level = false →
        exec (.magOkChange level) s = .next { s with inputs := { s.inputs with magOk := level } })) ∧
    (∀ level, level ≠ s.inputs.jetOk →
      (s.avail .a = .ready → exec (.jetOkChange level) s = .next { s with
        inputs := { s.inputs with jetOk := level }, jet := { s.jet with okWatch := watch level } }) ∧
      (s.avail .a = .interrogating → level = true → ∃ t, exec (.jetOkChange level) s = .next t ∧
        t.inputs = { s.inputs with jetOk := true } ∧
        t.lsig = { s.lsig with stations := { s.lsig.stations with a := { s.lsig.stations.a with avail := .ready, wait := none } } }) ∧
      (s.avail .a ≠ .ready → s.avail .a ≠ .interrogating ∨ level = false →
        exec (.jetOkChange level) s = .next { s with inputs := { s.inputs with jetOk := level } })) ∧
    ∀ drive flap,
      (s.avail .e = .ready → exec (.ecsOkChange drive flap) s = .next { s with
        inputs := { s.inputs with driveOk := drive, flapOk := flap }
        ecs := { s.ecs with
          driveWatch := if drive = s.inputs.driveOk then s.ecs.driveWatch else watch drive
          flapWatch := if flap = s.inputs.flapOk then s.ecs.flapWatch else watch flap } }) ∧
      (s.avail .e = .interrogating → s.lsig.estop = false → (s.inputs.driveOk = false ∨ s.inputs.flapOk = false) → drive = true → flap = true →
        ∃ t, exec (.ecsOkChange drive flap) s = .next t ∧ t.inputs = { s.inputs with driveOk := true, flapOk := true } ∧
          t.lsig = { s.lsig with stations := { s.lsig.stations with e := { s.lsig.stations.e with avail := .ready, wait := none } } } ∧
          t.ecs.demandKind ≠ .none ∧ (s.RotorSound → s.RotorAfresh t)) ∧
      (s.avail .e ≠ .ready → (s.avail .e ≠ .interrogating ∨ drive = false ∨ flap = false) →
        exec (.ecsOkChange drive flap) s = .next { s with inputs := { s.inputs with driveOk := drive, flapOk := flap } })

/-- A fault watch whose time is reached makes a READY station FAULTED and latches STATION, the stall watch latching ROTOR as well; the
station's actions are skipped and cut, and its block gives up what it holds (R116, R132, R133, R141, R146, R147, R158, R159). The lists of
the station are emptied, also of actions whose outcome is final (DEDUCED, log entry 6). The settle test is put to each record that the
leaving concerns, and to no other (R49, log entry 5). Station E's demand falls to 0, and the spin-up and stall watches are withdrawn, where
the rotor's state hangs together before it (RotorSound). The other stations stay as they are. A station that is not READY stays as it is:
the watch is gone, the stall watch latching ROTOR, and nothing else changes (R165). -/
def Obligations.FaultWatchMakesAReadyStationFaulted : Prop :=
  ∀ (c : Instr) (st : Station) (s : State), s.faultDue c = some st →
    (s.avail st = .ready → ∃ t, exec c s = .next t ∧
      t.lsig.stations = s.lsig.stations.set st { (s.lsig.stations.get st) with avail := .faulted, wait := none } ∧
      t.latched .station = true ∧ (c = .stallWatchExpiry → t.latched .rotor = true) ∧ s.Left t st .fault ∧
      s.JudgedAtLeaving t (fun x => x = st) .fault ∧
      (st = .e → t.ecs.demandKind = .none ∧ t.ecs.demandValue = 0) ∧
      (st = .e → s.RotorSound → s.RotorAfresh t ∧ t.ecs.spinUp = none ∧ t.ecs.stall = none)) ∧
    (s.avail st ≠ .ready → exec c s = .next (
      match c with
      | .magOkWatchExpiry => { s with mag := { s.mag with okWatch := none } }
      | .ecsOkWatchExpiry .drive => { s with ecs := { s.ecs with driveWatch := none } }
      | .ecsOkWatchExpiry .flap => { s with ecs := { s.ecs with flapWatch := none } }
      | .stallWatchExpiry =>
        { s with ecs := { s.ecs with stall := none }, lsig := { s.lsig with alerts := s.lsig.alerts ||| 0x080#10 } }
      | _ => { s with jet := { s.jet with okWatch := none } }))

/-- E-stop, asserted for 100 µs: the E-stop state is asserted and ESTOP latches, every station is OFFLINE, each that was READY leaves it
with reason ESTOP, its block giving up what it holds, and the demand falls to 0 (R116, R118, R132, R133, R137, R146, R147, R158, R159,
R167). The lists are emptied, also of actions whose outcome is final (DEDUCED, log entry 6). The settle test is put to each record that the
leaving of one of them concerns, and to no other (R49, log entry 5). The spin-up and stall watches are withdrawn where the rotor's state
hangs together before it (RotorSound; R141, R146). -/
def Obligations.EstopTakesEveryStationOffline : Prop :=
  ∀ s : State, due s.now s.lsig.estopFilter = true → s.inputs.estop = true → ∃ t, exec .estopAsserted s = .next t ∧
    t.lsig.estop = true ∧ t.lsig.estopFilter = none ∧ t.latched .estop = true ∧
    t.ecs.demandKind = .none ∧ t.ecs.demandValue = 0 ∧ (s.RotorSound → s.RotorAfresh t ∧ t.ecs.spinUp = none ∧ t.ecs.stall = none) ∧
    s.JudgedAtLeaving t (fun st => s.avail st = .ready) .estop ∧
    ∀ st : Station, t.avail st = .offline ∧ (t.lsig.stations.get st).wait = none ∧
      (t.lsig.stations.get st).acted = (s.lsig.stations.get st).acted ∧ (s.avail st = .ready → s.Left t st .estop)

/-- A TACH edge measures the speed against the last one, and sets the timeout one second ahead; the first edge measures nothing; at the
timeout the speed reads 0 (R136). The rotor state is read again wherever the speed changes (R138). A period of 0 is left out: R136 states no
result there (log entry 4). The economy timer's expiry stops it, and the demand follows the first row of R137 that applies: none off READY
or under E-stop, RUN while the need set holds a tag or ECON_EN is 0, and else IDLE at ROTOR_IDLE_RPM of the ACTIVE slot (R140). Each
evaluation of the rotor state sets or withdraws the watches of R141. Whatever command it is, a hard reset apart, an entry to RAMPING_UP sets
the spin-up watch and a leaving withdraws it; the conditions of the stall watch, as they come to hold together, set it, and as one ceases
they withdraw it; and, RESTART apart, a need set that becomes non-empty stops the economy timer and one that becomes empty sets it afresh,
ECS evaluating the demand (R139, R140), where the recipe slots have the shape that every run keeps. -/
def Obligations.RotorIsMeasuredAndLetIdle : Prop :=
  ((∀ s : State, s.ecs.lastTach = none → exec .tachEdge s = .next { s with
    ecs := { s.ecs with lastTach := some s.now, tachTimeout := some (s.now + 1000000) } }) ∧
  (∀ (s : State) (e : W32), s.ecs.lastTach = some e → 0 < (s.now - e).toNat * s.line.tachPpr →
    ∃ t, exec .tachEdge s = .next t ∧ t.ecs.lastTach = some s.now ∧ t.ecs.tachTimeout = some (s.now + 1000000) ∧
      t.ecs.speed = min 65535 (60000000 / ((s.now - e).toNat * s.line.tachPpr)) ∧ t.draws = s.draws ∧
      (t.ecs.speed = s.ecs.speed → s.RotorKept t) ∧
      (t.ecs.speed ≠ s.ecs.speed → s.RotorEvaluated t ∧
        RotorReads s.line.rotorBand s.ecs.demandKind s.ecs.demandValue t.ecs.speed t.ecs.rotor)) ∧
  ∀ s : State, due s.now s.ecs.tachTimeout = true → ∃ t, exec .tachTimeout s = .next t ∧ t.ecs.lastTach = none ∧
    t.ecs.tachTimeout = none ∧ t.ecs.speed = 0 ∧ (s.ecs.speed = 0 → s.RotorKept t) ∧
    (s.ecs.speed ≠ 0 → s.RotorEvaluated t ∧ RotorReads s.line.rotorBand s.ecs.demandKind s.ecs.demandValue 0 t.ecs.rotor)) ∧
  (∀ s : State, due s.now s.ecs.economy = true → ∃ t, exec .economyTimerExpiry s = .next t ∧ t.ecs.economy = none ∧ s.DemandEvaluated t ∧
    (s.avail .e ≠ .ready ∨ s.lsig.estop = true → t.ecs.demandKind = .none ∧ t.ecs.demandValue = 0) ∧
    (s.avail .e = .ready → s.lsig.estop = false → s.ecs.need ≠ [] ∨ s.activeParams.econEn = 0 →
      t.ecs.demandKind = .run ∧ t.ecs.demandValue = s.activeParams.runRpm) ∧
    (s.avail .e = .ready → s.lsig.estop = false → s.ecs.need = [] → s.activeParams.econEn ≠ 0 →
      t.ecs.demandKind = .idle ∧ t.ecs.demandValue = s.activeParams.idleRpm)) ∧
  ∀ (c : Instr) (s t : State), exec c s = .next t → (∀ levels, c ≠ .hardReset levels) →
    (s.ecs.rotor ≠ .rampingUp → t.ecs.rotor = .rampingUp →
      t.ecs.spinUp = some (s.now + BitVec.ofNat 32 (2 * t.line.spinupMs * 1000))) ∧
    (s.ecs.rotor = .rampingUp → t.ecs.rotor ≠ .rampingUp → t.ecs.spinUp = none) ∧
    (s.ecs.stall = none → ¬ s.ecs.Stalls → t.ecs.Stalls → t.ecs.stall = some (s.now + 2000000)) ∧
    (s.ecs.Stalls → ¬ t.ecs.Stalls → t.ecs.stall = none) ∧
    (c ≠ .restart → s.SlotsSound →
      (s.ecs.need = [] → t.ecs.need ≠ [] → t.ecs.economy = none ∧ t.DemandIsSet) ∧
      (s.ecs.need ≠ [] → t.ecs.need = [] →
        t.ecs.economy = some (s.now + BitVec.ofNat 32 (s.line.econHoldMs * 1000)) ∧ t.DemandIsSet))

/-- At its open time a PENDING pulse is OPEN (R155): the first of the nozzle's list whose time is reached; the rest stay. At its close time
an OPEN pulse leaves its list, and the A outcome of each owner whose last pulse it was becomes DONE, unless it is final; an owner with
another pulse keeps its outcome (R156). The settle test is put to each owner: one that meets it is SETTLED and in the settled queue, and
another keeps its state (R49, R50, R51, log entry 5); a record that owns no part of the pulse is as it was. -/
def Obligations.PulsesOpenAndCloseAtTheirTimes : Prop :=
  (∀ (s : State) (n : Fin 64) (before behind : List Pulse) (p : Pulse),
    s.jet.pulses[n] = before ++ p :: behind → (∀ q ∈ before, q.isOpen = true ∨ reached s.now q.openAt = false) →
    p.isOpen = false → reached s.now p.openAt = true →
      exec (.pulseOpen n) s = .next { s with
        jet := { s.jet with pulses := s.jet.pulses.set n (before ++ { p with isOpen := true } :: behind) } }) ∧
  ∀ (s : State) (n : Fin 64) (before behind : List Pulse) (p : Pulse),
    s.jet.pulses[n] = before ++ p :: behind → (∀ q ∈ before, q.isOpen = false ∨ reached s.now q.closeAt = false) →
    p.isOpen = true → reached s.now p.closeAt = true →
      ∃ t, exec (.pulseClose n) s = .next t ∧ t.jet = { s.jet with pulses := s.jet.pulses.set n (before ++ behind) } ∧
        (∀ tag ∈ p.owners, s.Judged t tag ∧ ∀ r, s.find tag = some r →
          ∃ r', t.find tag = some r' ∧ r'.outcome.a =
            if t.hasPulse tag = false ∧ r.outcome.a.inProgress = true then .done else r.outcome.a) ∧
        ∀ tag r, tag ∉ p.owners → s.find tag = some r → t.find tag = some r

/-! ### The links -/

/-- The bytes that a receiver takes and goes on (R163): in HUNT an A5h is a SYNC and any other byte is discarded, and so is one without its
stop bit, which leaves the time of the latest byte too (DESIGN CHOICE, log entry 8); a LEN of 1..64 is kept; KIND and BODY are kept until
LEN bytes are there; the first CRC byte is kept. The bytes and the silence that drop a frame, each with its cause, LINK latched and no reply
(R163, R168): a byte without its stop bit after the SYNC, a LEN of 0 or above 64, which is then taken as the first byte in HUNT, a CRC that
does not match, and more than 2 ms without a byte, which is over 2,001 µs after the latest one (DEDUCED, log entry 8). The queues stay as
they are. A receiver's rate that waits for the frame at hand comes into force as the frame is dropped (R100, log entry 10). -/
def Obligations.ReceiverFollowsOrDropsTheFrame : Prop :=
  (∀ (l : Link) (b : Byte) (s : State),
    let r := (s.link l).rx
    let becomes (r' : Receiver) : Host.Outcome State Fault Refusal := .next (s.modLink l fun k => { k with rx := r' })
    (r.phase = .hunt → exec (.receiverByteTaken l b false) s = .next s) ∧
    (r.phase = .hunt → exec (.receiverByteTaken l b true) s =
      becomes { phase := if b = 0xA5#8 then .length else .hunt, len := 0, got := [], crcHigh := none, lastByte := s.now }) ∧
    (r.phase = .length → 1 ≤ b.toNat → b.toNat ≤ 64 → exec (.receiverByteTaken l b true) s =
      becomes { phase := .body, len := b.toNat, got := [], crcHigh := none, lastByte := s.now }) ∧
    (r.phase = .body → exec (.receiverByteTaken l b true) s =
      becomes { r with phase := if r.len ≤ r.got.length + 1 then .check else .body, got := r.got ++ [b], lastByte := s.now }) ∧
    (r.phase = .check → r.crcHigh = none → exec (.receiverByteTaken l b true) s =
      becomes { r with crcHigh := some b, lastByte := s.now })) ∧
  ∀ (l : Link) (b : Byte) (s : State),
    let r := (s.link l).rx
    let drops (c : Instr) (cause : Cause) (phase : RxPhase) : Prop := ∃ t, exec c s = .next t ∧ (t.link l).rx.phase = phase ∧
      (t.link l).rxQueue = (s.link l).rxQueue ∧ (t.link l).txQueue = (s.link l).txQueue ∧ Within [linkBlock l, .alerts] s t ∧
      s.FrameOver t l ∧ t.lsig.alerts = s.lsig.alerts ||| 0x002#10 ∧ t.lsig.linkCause = some { cause := cause, link := l }
    (r.phase ≠ .hunt → drops (.frameDropped l b false) .framing .hunt) ∧
    (r.phase = .length → b.toNat = 0 ∨ 64 < b.toNat →
      drops (.frameDropped l b true) .length (if b = 0xA5#8 then .length else .hunt)) ∧
    (∀ high, r.phase = .check → r.crcHigh = some high → crc16 (BitVec.ofNat 8 r.len :: r.got) ≠ high ++ b →
      drops (.frameDropped l b true) .crc .hunt) ∧
    (r.phase ≠ .hunt → reached s.now (r.lastByte + 2001) = true → drops (.frameGapTimeout l) .gap .hunt)

/-- The byte that completes a well-formed frame (R65, R163, R164): the frame joins the receive queue of fewer than 4 frames; else it is
discarded whole, OVERRUN latches, and LINK with cause OVERRUN. The receiver is in HUNT again, and a rate of it that waits for the frame
comes into force (R100, log entry 10). -/
def Obligations.CompletedFrameJoinsTheQueue : Prop :=
  ∀ (l : Link) (b high : Byte) (s : State),
    let r := (s.link l).rx
    r.phase = .check → r.crcHigh = some high → crc16 (BitVec.ofNat 8 r.len :: r.got) = high ++ b →
      ∃ t, exec (.frameReceived l b true) s = .next t ∧ (t.link l).rx.phase = .hunt ∧
        (t.link l).txQueue = (s.link l).txQueue ∧ Within [linkBlock l, .alerts] s t ∧ s.FrameOver t l ∧
        ((s.link l).rxQueue.length < 4 →
          (t.link l).rxQueue = (s.link l).rxQueue ++ [{ kind := r.got.headD 0, body := r.got.tail }] ∧ t.lsig = s.lsig) ∧
        (4 ≤ (s.link l).rxQueue.length → (t.link l).rxQueue = (s.link l).rxQueue ∧
          t.lsig = { s.lsig with
            alerts := s.lsig.alerts ||| 0x200#10 ||| 0x002#10, linkCause := some { cause := .overrun, link := l } })

/-- The frame format, sender to receiver (R163, section 10.1): the bytes SYNC, LEN, KIND, BODY and CRC of any KIND and any BODY of at most
63 bytes, taken one after the other by a receiver in HUNT, put exactly that KIND and BODY at the tail of the receive queue. The byte that
completes the frame is fed as RECEIVER_BYTE_TAKEN like the others (DESIGN CHOICE, log entry 11). -/
def Obligations.FrameBytesAreReceivedAsTheFrame : Prop :=
  ∀ (l : Link) (kind : Byte) (body : List Byte) (s : State), body.length ≤ 63 → (s.link l).rx.phase = .hunt →
    (s.link l).rxQueue.length < 4 → ∃ t, State.feed l (frameBytes kind body) s = .next t ∧ (t.link l).rx.phase = .hunt ∧
      (t.link l).rxQueue = (s.link l).rxQueue ++ [{ kind := kind, body := body }] ∧
      (t.link l).txQueue = (s.link l).txQueue ∧ t.lsig = s.lsig ∧ Within [linkBlock l] s t

/-- The sending of the head frame frees its place (R67), and a rate that waited for it comes into force (R100): of the transmitter, and
after the reply to a write of SLINK_RATE of both directions, the receiver's once no frame is at hand. A write of a link rate (R97, R100): a
new SLINK_RATE waits for its own reply to be sent; a new CLINK_RATE comes into force at once in a direction of the classifier link that has
no frame at hand, and else waits for that frame's end. That an empty transmit queue means no frame at hand, that the receiver's new rate
waits for the frame at hand, and that a later write replaces the rate that waits is log entry 10 (DEDUCED and DESIGN CHOICE). -/
def Obligations.FrameSentFreesItsPlaceAndRatesWaitForIt : Prop :=
  (∀ (l : Link) (f : TxFrame) (rest : List TxFrame) (s : State), (s.link l).txQueue = f :: rest →
    ∃ t, exec (.frameSent l) s = .next t ∧ Within [linkBlock l] s t ∧ (t.link l).txQueue = rest ∧
      (t.link l).rxQueue = (s.link l).rxQueue ∧ (t.link l).rx = (s.link l).rx ∧
      (f.rateAfter = none → (t.link l).txRate = ((s.link l).txRateDue).getD (s.link l).txRate ∧
        (t.link l).rxRate = (s.link l).rxRate ∧ (t.link l).rxRateDue = (s.link l).rxRateDue) ∧
      (∀ rate, f.rateAfter = some rate → (t.link l).txRate = rate ∧
        ((s.link l).rx.phase = .hunt → (t.link l).rxRate = rate) ∧
        ((s.link l).rx.phase ≠ .hunt → (t.link l).rxRate = (s.link l).rxRate ∧ (t.link l).rxRateDue = some rate))) ∧
  ∀ (slot v : Nat) (rest : List Frame) (s : State), slot < 256 → v < 4294967296 →
    let w := clampTo 0 3 v
    let q := s.popped .supervisor rest
    (s.Waits .supervisor 0x21 (paramBody 0x061 slot v) rest → exec .slinkRateWrite s =
      .next ({ q with rcp := { s.rcp with line := { s.line with slinkRate := w } } }.replied .supervisor 0x21 (storedStatus v w)
        (paramBody 0x061 slot w) (some w))) ∧
    (s.Waits .supervisor 0x21 (paramBody 0x060 slot v) rest → exec .clinkRateWrite s =
      .next ({ q with
          rcp := { s.rcp with line := { s.line with clinkRate := w } }
          clink := { s.clink with
            txRate := if s.clink.txQueue = [] then w else s.clink.txRate
            txRateDue := if s.clink.txQueue = [] then none else some w
            rxRate := if s.clink.rx.phase = RxPhase.hunt then w else s.clink.rxRate
            rxRateDue := if s.clink.rx.phase = RxPhase.hunt then none else some w } }.replied .supervisor 0x21 (storedStatus v w)
        (paramBody 0x060 slot w)))

/-- Every request that is taken gets one reply (R66, R164): the request leaves the receive queue, and the reply, of the request's KIND plus
80h and with a status byte, joins the transmit queue. No other frame joins a transmit queue. While the transmit queue is full the request
stays, and nothing changes. -/
def Obligations.EveryRequestTakenGetsOneReply : Prop :=
  ∀ (l : Link) (f : Frame) (rest : List Frame) (s : State), (s.link l).rxQueue = f :: rest →
    ((s.link l).txQueue.length < txPlaces l → ∃ t reply, exec (rowOf l f) s = .next t ∧ (t.link l).rxQueue = rest ∧
      (t.link l).txQueue = (s.link l).txQueue ++ [reply] ∧ reply.kind = f.kind + 0x80#8 ∧ reply.body ≠ [] ∧
      ∀ k, k ≠ l → (t.link k).txQueue = (s.link k).txQueue) ∧
    (txPlaces l ≤ (s.link l).txQueue.length → exec (rowOf l f) s = .next s)

/-- A KIND that the link does not serve is answered BAD_KIND, and a body of another length than its layout's BAD_LEN, each with the status
byte alone; nothing changes but the two queues (R66, R164, section 10.7). -/
def Obligations.MalformedRequestIsRefused : Prop :=
  ∀ (l : Link) (kind : Nat) (body : List Byte) (rest : List Frame) (s : State), kind < 256 → s.Waits l kind body rest →
    (bodyLength l kind = none → exec (.badKindRequest l) s = .next ((s.popped l rest).replied l kind .badKind [])) ∧
    (∀ n, bodyLength l kind = some n → body.length ≠ n →
      exec (rowOf l { kind := BitVec.ofNat 8 kind, body := body }) s = .next ((s.popped l rest).replied l kind .badLen []))

/-! ### The classifier's requests -/

/-- VERDICT, by the tests of R69 in their order: BAD_CODE, BAD_ARG, NO_SUCH; TOO_LATE with LATE_VERDICT set and the verdict left (R70); and
else the verdict stored, a confidence above 100 as 100 with CLAMPED, the amendment count up by one and held at 255 (R71). The reply
carries the tag, and where it is live the record's state and amendment count after the request; what a refusal reports is the model's
reading where R69 leaves it open (log entry 9). -/
def Obligations.VerdictIsStoredOrRefused : Prop :=
  ∀ (tag code conf : Nat) (rest : List Frame) (s : State), tag < 65536 → code < 256 → conf < 256 →
    s.Waits .classifier 0x10 (le 2 tag ++ le 1 code ++ le 1 conf) rest →
    let answer (t : State) (status : Status) (state : Option RecState) (amend : Nat) : Host.Outcome State Fault Refusal :=
      .next (t.replied .classifier 0x10 status (le 2 tag ++ [stateByte state] ++ le 1 amend))
    let q := s.popped .classifier rest
    let amends (r : Record) : Nat := (r.verdict.map (·.amend)).getD 0
    (13 < code → s.find tag = none → exec .verdict s = answer q .badCode none 0) ∧
    (∀ r, 13 < code → s.find tag = some r → exec .verdict s = answer q .badCode (some r.state) (amends r)) ∧
    (code ≤ 13 → tag = 0 → exec .verdict s = answer q .badArg none 0) ∧
    (code ≤ 13 → tag ≠ 0 → s.find tag = none → exec .verdict s = answer q .noSuch none 0) ∧
    (∀ r, code ≤ 13 → tag ≠ 0 → s.find tag = some r → r.state = .routed ∨ r.state = .airborne ∨ r.state = .settled →
      exec .verdict s =
        answer (q.modRecord tag fun r => { r with flags := { r.flags with lateVerdict := true } }) .tooLate (some r.state) (amends r)) ∧
    (∀ r, code ≤ 13 → tag ≠ 0 → s.find tag = some r → r.state = .opened ∨ r.state = .pending →
      exec .verdict s =
        answer (q.modRecord tag fun x => { x with
            verdict := some { code := code, conf := min 100 conf, source := .classifier, amend := min 255 (amends x + 1) } })
          (if 100 < conf then .clamped else .ok) (some r.state) (min 255 (amends r + 1)))

/-- VERDICT_AT and LOCATE act on the record that the LOCATE rule finds (R72, R73): a coil above 31 is BAD_ARG, then for VERDICT_AT a code
above 13 is BAD_CODE, and no record found is NO_SUCH. VERDICT_AT then serves the record as VERDICT does; LOCATE reports tag, state and F,
and changes nothing. What a refused VERDICT_AT reports is the model's reading (log entry 9). -/
def Obligations.RequestsByPositionFindTheRecord : Prop :=
  (∀ (p coil code conf : Nat) (rest : List Frame) (s : State), p < 4294967296 → coil < 256 → code < 256 → conf < 256 →
    s.Waits .classifier 0x11 (le 4 p ++ le 1 coil ++ le 1 code ++ le 1 conf) rest →
    let answer (t : State) (status : Status) (tag : Nat) (state : Option RecState) (amend : Nat) :
        Host.Outcome State Fault Refusal :=
      .next (t.replied .classifier 0x11 status (le 2 tag ++ [stateByte state] ++ le 1 amend))
    let q := s.popped .classifier rest
    let amends (r : Record) : Nat := (r.verdict.map (·.amend)).getD 0
    let found := s.locate (BitVec.ofNat 32 p) coil
    (31 < coil → exec .verdictAt s = answer q .badArg 0 none 0) ∧
    (coil ≤ 31 → 13 < code → exec .verdictAt s = answer q .badCode 0 none 0) ∧
    (coil ≤ 31 → code ≤ 13 → found = none → exec .verdictAt s = answer q .noSuch 0 none 0) ∧
    (∀ r, coil ≤ 31 → code ≤ 13 → found = some r → s.tab.tags.Nodup →
      (r.state = .routed ∨ r.state = .airborne ∨ r.state = .settled → exec .verdictAt s =
        answer (q.modRecord r.tag fun r => { r with flags := { r.flags with lateVerdict := true } }) .tooLate r.tag (some r.state)
          (amends r)) ∧
      (r.state = .opened ∨ r.state = .pending → exec .verdictAt s =
        answer (q.modRecord r.tag fun x => { x with
            verdict := some { code := code, conf := min 100 conf, source := .classifier, amend := min 255 (amends x + 1) } })
          (if 100 < conf then .clamped else .ok) r.tag (some r.state) (min 255 (amends r + 1))))) ∧
  ∀ (p coil : Nat) (rest : List Frame) (s : State), p < 4294967296 → coil < 256 →
    s.Waits .classifier 0x12 (le 4 p ++ le 1 coil) rest →
    let answer (status : Status) (tag : Nat) (state : Option RecState) (f : Nat) : Host.Outcome State Fault Refusal :=
      .next ((s.popped .classifier rest).replied .classifier 0x12 status (le 2 tag ++ [stateByte state] ++ le 4 f))
    (31 < coil → exec .locate s = answer .badArg 0 none 0) ∧
    (coil ≤ 31 → s.locate (BitVec.ofNat 32 p) coil = none → exec .locate s = answer .noSuch 0 none 0) ∧
    (∀ r, coil ≤ 31 → s.locate (BitVec.ofNat 32 p) coil = some r → exec .locate s = answer .ok r.tag (some r.state) r.f.toNat)

/-- The LOCATE rule (R54): what it finds is a candidate, a live record whose span holds the coil and whose front and tail, widened by
LOCATE_TOL, take in the position, an OPEN record's tail being the latest scan, which is the last multiple of 4 reached (R10; DEDUCED, log
entry 5); no other candidate has a later front, nor an equal front and a lower first coil; and it finds nothing only where no live record
is a candidate. The fronts are positions already reached. -/
def Obligations.LocateFindsTheLatestFront : Prop :=
  ∀ (p : W32) (coil : Nat) (s : State), (∀ r ∈ s.tab.records, (s.here - r.f).toNat < 2 ^ 31) →
    let tail (r : Record) : W32 := (r.closing.map (·.t)).getD (s.here - BitVec.ofNat 32 (s.here.toNat % 4))
    let tol : W32 := BitVec.ofNat 32 s.line.locateTol
    let candidate (r : Record) : Prop := r ∈ s.tab.records ∧ r.span.first ≤ coil ∧ coil ≤ r.span.last ∧
      (p - r.f + tol).toNat < 2 ^ 31 ∧ (tail r + tol - p).toNat < 2 ^ 31
    (s.locate p coil = none → ∀ r, ¬ candidate r) ∧
    ∀ r, s.locate p coil = some r → candidate r ∧ ∀ x, candidate x →
      ¬ (x.f - r.f ≠ 0 ∧ (x.f - r.f).toNat < 2 ^ 31) ∧ (x.f = r.f → r.span.first ≤ x.span.first)

/-! ### Parameters -/

/-- PARAM_READ answers by the range its number lies in (R96): a listed line-wide or measured number with its value, a superseded one with
0, a listed per-recipe number with the slot's value, BAD_ARG for a slot above 2; any other number is BAD_PARAM with 0, whatever the slot
(DESIGN CHOICE, log entry 9, as is the echo of number and slot). A read changes nothing but the queues. -/
def Obligations.ParamReadAnswersByRange : Prop :=
  ∀ (number slot : Nat) (rest : List Frame) (s : State), number < 65536 → slot < 256 →
    s.Waits .supervisor 0x20 (le 2 number ++ le 1 slot) rest →
    let answers (status : Status) (value : Nat) : Prop := exec .paramRead s =
      .next ((s.popped .supervisor rest).replied .supervisor 0x20 status (paramBody number slot value))
    (∀ p, lineParamOf number = some p → answers .ok (p.get s.line)) ∧
    (∀ k : Fin 8, number = 0x070 + k.val → answers .ok s.line.auxFn[k]) ∧
    (number = 0x078 → answers .ok s.line.alertMask.toNat) ∧
    (0x080 ≤ number → number ≤ 0x0FF → answers .ok 0) ∧
    (∀ (p : RecipeParam) (k : Fin 3), recipeParamOf number = some p → slot = k.val →
      answers .ok (p.get s.rcp.slots[k].recipe.params)) ∧
    (∀ p, recipeParamOf number = some p → 2 < slot → answers .badArg 0) ∧
    (number = 0x200 → answers .ok s.pos.position.toNat) ∧ (number = 0x201 → answers .ok s.pos.time.toNat) ∧
    (number = 0x202 → answers .ok s.pos.t64) ∧ (number = 0x203 → answers .ok s.pos.belt.code.toNat) ∧
    (number = 0x204 → answers .ok s.ecs.speed) ∧ (number = 0x205 → answers .ok s.ecs.rotor.code.toNat) ∧
    (∀ k : Fin 8, number = 0x208 + k.val → answers .ok s.mag.segments[k].heat) ∧
    (number = 0x210 → answers .ok s.tab.records.length) ∧ (number = 0x211 → answers .ok s.tab.tagCounter) ∧
    (number = 0x212 → answers .ok s.pos.backlash) ∧
    (lineParamOf number = none → recipeParamOf number = none → (number < 0x070 ∨ 0x078 < number) →
      (number < 0x080 ∨ 0x0FF < number) → (number < 0x200 ∨ number = 0x206 ∨ number = 0x207 ∨ 0x212 < number) → answers .badParam 0)

/-- PARAM_WRITE of a line-wide number without a row of its own stores the value, held in the parameter's range and within the bond of
PULSE_MIN and PULSE_MAX, with OK or CLAMPED; a superseded number is answered OK and discarded, a measured one READ_ONLY, an unlisted one
BAD_PARAM (R96, R97, R98). The reply carries the value held, or 0. That BAD_PARAM comes before any test of the slot, and that a refusal
echoes number and slot, is log entry 9. -/
def Obligations.ParamWriteHoldsTheValueInRange : Prop :=
  ∀ (number slot v : Nat) (rest : List Frame) (s : State), number < 65536 → slot < 256 → v < 4294967296 →
    s.Waits .supervisor 0x21 (paramBody number slot v) rest →
    let q := s.popped .supervisor rest
    let answer (t : State) (status : Status) (value : Nat) : Host.Outcome State Fault Refusal :=
      .next (t.replied .supervisor 0x21 status (paramBody number slot value))
    (∀ p, lineParamOf number = some p → paramWriteRow (paramBody number slot v) = .paramWrite →
      let w :=
        match p with
        | .pulseMin => min (clampTo 500 10000 v) s.line.pulseMax
        | .pulseMax => max (clampTo 2000 100000 v) s.line.pulseMin
        | p => clampTo p.range.1 p.range.2 v
      exec .paramWrite s = answer { q with rcp := { s.rcp with line := p.set w s.line } } (storedStatus v w) w) ∧
    (0x080 ≤ number → number ≤ 0x0FF → exec .paramWrite s = answer q .ok 0) ∧
    (0x200 ≤ number → number ≠ 0x206 → number ≠ 0x207 → number ≤ 0x212 → exec .paramWrite s = answer q .readOnly 0) ∧
    (lineParamOf number = none → recipeParamOf number = none → (number < 0x070 ∨ 0x078 < number) →
      (number < 0x080 ∨ 0x0FF < number) → (number < 0x200 ∨ number = 0x206 ∨ number = 0x207 ∨ 0x212 < number) →
      exec .paramWrite s = answer q .badParam 0)

/-- PARAM_WRITE of a per-recipe number (R87, R96, R97, R98): in the order of log entry 9 (DESIGN CHOICE), BAD_PARAM for an unlisted one,
BAD_ARG for a slot above 2, IN_USE with the held value for an ACTIVE or DRAINING slot; else the value is held in range and within its
bonds, T_ON lowering T_OFF and ROTOR_RUN_RPM lowering ROTOR_IDLE_RPM of the same slot, the slot becomes EDIT, and a switch pending for an
ARMED one is cancelled. -/
def Obligations.PerRecipeWriteKeepsTheBonds : Prop :=
  ∀ (number slot v : Nat) (rest : List Frame) (s : State), 0x100 ≤ number → number ≤ 0x17F → slot < 256 → v < 4294967296 →
    500 ≤ s.line.rotorMaxRpm → s.Waits .supervisor 0x21 (paramBody number slot v) rest →
    let q := s.popped .supervisor rest
    let answer (t : State) (status : Status) (value : Nat) : Host.Outcome State Fault Refusal :=
      .next (t.replied .supervisor 0x21 status (paramBody number slot value))
    (recipeParamOf number = none → exec .paramWrite s = answer q .badParam 0) ∧
    (recipeParamOf number ≠ none → 2 < slot → exec .paramWrite s = answer q .badArg 0) ∧
    ∀ (p : RecipeParam) (k : Fin 3), recipeParamOf number = some p → slot = k.val →
      let c := s.rcp.slots[k]
      let old := c.recipe.params
      (c.state = .active ∨ c.state = .draining → exec .paramWrite s = answer q .inUse (p.get old)) ∧
      (c.state ≠ .active → c.state ≠ .draining →
        let written (new : RecipeParams) : State := { q with rcp := { s.rcp with
          slots := s.rcp.slots.set k { c with state := .edit, recipe := { c.recipe with params := new } }
          psw := if c.state = .armed then none else s.rcp.psw } }
        (p = .tOn → let w := clampTo 1 4095 v
          exec .paramWrite s = answer (written { old with tOn := w, tOff := min old.tOff (w - 1) })
            (if w = v ∧ old.tOff ≤ w - 1 then .ok else .clamped) w) ∧
        (p = .tOff → let w := min (clampTo 0 4094 v) (old.tOn - 1)
          exec .paramWrite s = answer (written { old with tOff := w }) (storedStatus v w) w) ∧
        (p = .runRpm → let w := clampTo 500 s.line.rotorMaxRpm v
          exec .paramWrite s = answer (written { old with runRpm := w, idleRpm := min old.idleRpm w })
            (if w = v ∧ old.idleRpm ≤ w then .ok else .clamped) w) ∧
        (p = .idleRpm → let w := clampTo 0 old.runRpm v
          exec .paramWrite s = answer (written { old with idleRpm := w }) (storedStatus v w) w) ∧
        (p ≠ .tOn → p ≠ .tOff → p ≠ .runRpm → p ≠ .idleRpm →
          let w := clampTo (p.range s.line.rotorMaxRpm old).1 (p.range s.line.rotorMaxRpm old).2 v
          exec .paramWrite s = answer (written (p.set w old)) (storedStatus v w) w))

/-- The writes of POS's own parameters (R4, R13, R97): STOP_MS moves a pending stop timer to the latest advance plus the new value, and the
belt stops at once if that is reached; T64_RUN evaluates a CREEPING or RUNNING belt again; BACKLASH_MAX leaves the backlash count. The
writes of the line signals' parameters (R97, R128, R168, R169): ALERT_MASK keeps its ten members, and what lies beyond them is dropped with
CLAMPED; an aux function is held in 0..4, and the hot input, the OR of the terminals of function 1, is seen again. -/
def Obligations.OwnedParametersActAtTheWrite : Prop :=
  (∀ (number slot v : Nat) (rest : List Frame) (s : State), slot < 256 → v < 4294967296 →
    s.Waits .supervisor 0x21 (paramBody number slot v) rest →
    let answer (line : Line) (pos : Pos) (w : Nat) : Host.Outcome State Fault Refusal :=
      .next ({ s.popped .supervisor rest with rcp := { s.rcp with line := line }, pos := pos }.replied .supervisor 0x21
        (storedStatus v w) (paramBody number slot w))
    (number = 0x001 →
      let w := clampTo 50 2000 v
      let expiry := s.pos.latestAdvance + BitVec.ofNat 32 (w * 1000)
      (s.pos.stopTimer = none → exec .stopMsWrite s = answer { s.line with stopMs := w } s.pos w) ∧
      (s.pos.stopTimer ≠ none → reached s.now expiry = false →
        exec .stopMsWrite s = answer { s.line with stopMs := w } { s.pos with stopTimer := some expiry } w) ∧
      (s.pos.stopTimer ≠ none → reached s.now expiry = true → exec .stopMsWrite s = answer { s.line with stopMs := w }
        { s.pos with belt := .stopped, t64 := 1048575, groupCount := 0, completionsSeen := 0, stopTimer := none } w)) ∧
    (number = 0x002 →
      let w := clampTo 4000 262143 v
      exec .t64RunWrite s = answer { s.line with t64Run := w }
        { s.pos with belt := if s.pos.belt = .stopped then .stopped else if s.pos.t64 ≤ w then .running else .creeping } w) ∧
    (number = 0x003 →
      let w := clampTo 16 4096 v
      exec .backlashMaxWrite s = answer { s.line with backlashMax := w } s.pos w)) ∧
  ∀ (number slot v : Nat) (rest : List Frame) (s : State), slot < 256 → v < 4294967296 →
    s.Waits .supervisor 0x21 (paramBody number slot v) rest →
    let answer (line : Line) (mag : Mag) (w : Nat) : Host.Outcome State Fault Refusal :=
      .next ({ s.popped .supervisor rest with rcp := { s.rcp with line := line }, mag := mag }.replied .supervisor 0x21
        (storedStatus v w) (paramBody number slot w))
    (number = 0x078 → exec .alertMaskWrite s = answer { s.line with alertMask := BitVec.ofNat 10 v } s.mag (v % 1024)) ∧
    ∀ (k : Fin 8) (hot : Bool), number = 0x070 + k.val →
      let w := clampTo 0 4 v
      let fns := s.line.auxFn.set k w
      (hot = true ↔ ∃ j : Fin 8, fns[j] = 1 ∧ s.inputs.aux.getLsbD j = true) →
        (hot = s.mag.hotInput → exec .auxFunctionWrite s = answer { s.line with auxFn := fns } s.mag w) ∧
        (hot ≠ s.mag.hotInput → exec .auxFunctionWrite s = answer { s.line with auxFn := fns }
          { s.mag with hotInput := hot, hotDebounce := if hot = s.mag.hotState then none else some (s.now + 50000) } w)

/-- A geometry parameter is written only while no record is live, else BUSY; the value, held in range and L_MAX rounded down to a multiple
of 4, is stored if the three constraints of the line still hold, else CONFLICT. The reply carries the value held after the request
(R97, R98, R99). -/
def Obligations.GeometryIsWrittenOnAnEmptyTable : Prop :=
  ∀ (number slot v : Nat) (rest : List Frame) (s : State) (p : LineParam), 0x010 ≤ number → number ≤ 0x016 → slot < 256 →
    v < 4294967296 → lineParamOf number = some p → s.Waits .supervisor 0x21 (paramBody number slot v) rest →
    let q := s.popped .supervisor rest
    let answer (t : State) (status : Status) (value : Nat) : Host.Outcome State Fault Refusal :=
      .next (t.replied .supervisor 0x21 status (paramBody number slot value))
    let held := clampTo p.range.1 p.range.2 v
    let w := if p = .lMax then held - held % 4 else held
    let new := p.set w s.line
    let sound := new.lMax + 64 ≤ new.dDec ∧ new.dDec + 512 ≤ new.pMag ∧ new.pMag + new.magLen + 256 ≤ new.pHead
    (s.tab.records ≠ [] → exec .geometryWrite s = answer q .busy (p.get s.line)) ∧
    (s.tab.records = [] → sound → exec .geometryWrite s =
      answer { q with rcp := { s.rcp with line := new } } (storedStatus v w) w) ∧
    (s.tab.records = [] → ¬ sound → exec .geometryWrite s = answer q .conflict (p.get s.line))

/-- A write of HEAT_MAX acts on every segment at once (R97, R131): an account above the new HEAT_MAX + 94 is lowered to it; a segment not
COOLING at or above the new HEAT_MAX has reached its limit, with THERMAL, and falls with its lifts CUT if its drive was on, the other
segments of a cut lift's set letting go of its tag (R124) and the settle test put to its record (R49, log entry 5); a COOLING one at half of
it or below leaves COOLING. Which segments are at the limit and driven is taken before the first cut (DEDUCED, log entry 7). A
write of ROTOR_MAX_RPM below the run speed of a slot that is not FREE is refused with CONFLICT; else it is stored, the two rotor values of
each FREE slot follow it, the other slots stay, and ECS evaluates the demand (R85, R97, R98, R137). A write of ROTOR_BAND reads the rotor
state again at once, and the watches follow it (R138, R141, R148). -/
def Obligations.HeatAndRotorParametersActAtTheWrite : Prop :=
  (∀ (slot v : Nat) (rest : List Frame) (s : State), slot < 256 → v < 4294967296 →
    s.Waits .supervisor 0x21 (paramBody 0x024 slot v) rest →
    let w := clampTo 1000 600000 v
    ∃ t : State, exec .heatMaxWrite s = .next (t.replied .supervisor 0x21 (storedStatus v w) (paramBody 0x024 slot w)) ∧
      t.slink = (s.popped .supervisor rest).slink ∧ t.line = { s.line with heatMax := w } ∧
      ∀ k : Fin 8,
        let g := s.mag.segments[k]
        let g' := t.mag.segments[k]
        g'.heat = min g.heat (w + 94) ∧
        (g'.cooling = true ↔ (g.cooling = true ∨ w ≤ g'.heat) ∧ w / 2 < g'.heat) ∧
        (g.driven = false → g'.power = g.power ∧ g'.completion = g.completion) ∧
        (g.cooling = false → w ≤ g'.heat → t.latched .thermal = true ∧
          (g.driven = true → g'.power = .falling ∧
            g'.completion = some (s.now + BitVec.ofNat 32 (s.line.magFallMs * 1000)) ∧
            ∀ tag ∈ s.liftsOn k, t.hasClaims tag .m = false ∧
              ∀ r, s.find tag = some r → r.outcome.m.inProgress = true → ∃ r', t.find tag = some r' ∧ r'.outcome.m = .cut .thermal)) ∧
        s.LiftsCut t fun j => s.mag.segments[j].cooling = false ∧ s.mag.segments[j].driven = true ∧
          w ≤ min s.mag.segments[j].heat (w + 94)) ∧
  ∀ (slot v : Nat) (rest : List Frame) (s : State), slot < 256 → v < 4294967296 →
    (s.Waits .supervisor 0x21 (paramBody 0x031 slot v) rest →
      let w := clampTo 500 6000 v
      ((∃ k : Fin 3, s.rcp.slots[k].state ≠ .free ∧ w < s.rcp.slots[k].recipe.params.runRpm) → exec .rotorMaxRpmWrite s =
        .next ((s.popped .supervisor rest).replied .supervisor 0x21 .conflict (paramBody 0x031 slot s.line.rotorMaxRpm))) ∧
      ((∀ k : Fin 3, s.rcp.slots[k].state ≠ .free → s.rcp.slots[k].recipe.params.runRpm ≤ w) →
        ∃ t : State, exec .rotorMaxRpmWrite s = .next (t.replied .supervisor 0x21 (storedStatus v w) (paramBody 0x031 slot w)) ∧
          t.slink = (s.popped .supervisor rest).slink ∧ t.line = { s.line with rotorMaxRpm := w } ∧ s.DemandEvaluated t ∧
          ∀ k : Fin 3,
            (s.rcp.slots[k].state ≠ .free → t.rcp.slots[k] = s.rcp.slots[k]) ∧
            (s.rcp.slots[k].state = .free → t.rcp.slots[k].state = .free ∧
              t.rcp.slots[k].recipe.params.runRpm = min 3000 w ∧
              t.rcp.slots[k].recipe.params.idleRpm = min 800 (min 3000 w)))) ∧
    (s.Waits .supervisor 0x21 (paramBody 0x035 slot v) rest →
      let w := clampTo 1 10 v
      ∃ t : State, exec .rotorBandWrite s = .next (t.replied .supervisor 0x21 (storedStatus v w) (paramBody 0x035 slot w)) ∧
        t.slink = (s.popped .supervisor rest).slink ∧ t.line = { s.line with rotorBand := w } ∧
        RotorReads w s.ecs.demandKind s.ecs.demandValue s.ecs.speed t.ecs.rotor ∧ s.RotorEvaluated t)

/-! ### The recipe store -/

/-- ROUTE_READ and ROUTE_WRITE (R75, R76, R87): a slot above 2 or a place that is none of the 81 is BAD_ARG; a read answers the entry; a
write to an ACTIVE or DRAINING slot is IN_USE, and one of 16 bits that spell no valid entry is BAD_ROUTE, and nothing changes; a valid
entry is written, a priority above 7 as 7 with CLAMPED, the slot becomes EDIT, and a switch pending for an ARMED one is cancelled. The
entry that a refused write shows is the model's reading (log entry 9). -/
def Obligations.RouteEntriesAreReadAndWritten : Prop :=
  ∀ (slot row column bits : Nat) (rest : List Frame) (s : State), slot < 256 → row < 256 → column < 256 → bits < 65536 →
    let q := s.popped .supervisor rest
    let answer (kind : Nat) (t : State) (status : Status) (entry : Nat) : Host.Outcome State Fault Refusal :=
      .next (t.replied .supervisor kind status (le 1 slot ++ le 1 row ++ le 1 column ++ le 2 entry))
    let noPlace := 2 < slot ∨ 5 < row ∨ row < 5 ∧ 15 < column ∨ row = 5 ∧ column ≠ 0
    (s.Waits .supervisor 0x22 (le 1 slot ++ le 1 row ++ le 1 column) rest →
      (noPlace → exec .routeRead s = answer 0x22 q .badArg 0) ∧
      (∀ (k : Fin 3) (i : Fin 5) (n : Fin 16), slot = k.val → row = i.val → column = n.val →
        exec .routeRead s = answer 0x22 q .ok s.rcp.slots[k].recipe.rows[i][n].code) ∧
      (∀ k : Fin 3, slot = k.val → row = 5 → column = 0 →
        exec .routeRead s = answer 0x22 q .ok s.rcp.slots[k].recipe.overlength.code)) ∧
    (s.Waits .supervisor 0x23 (le 1 slot ++ le 1 row ++ le 1 column ++ le 2 bits) rest →
      (noPlace → exec .routeWrite s = answer 0x23 q .badArg 0) ∧
      ∀ (k : Fin 3) (i : Fin 5) (c : Column), slot = k.val →
        ((∃ n : Fin 16, c = .col n ∧ row = i.val ∧ column = n.val) ∨ c = .overlength ∧ row = 5 ∧ column = 0) →
        let old := s.rcp.slots[k]
        (old.state = .active ∨ old.state = .draining → exec .routeWrite s = answer 0x23 q .inUse (old.recipe.entry i c).code) ∧
        (old.state ≠ .active → old.state ≠ .draining →
          ((∀ e : RouteEntry, e.valid = true → e.priority ≤ 15 → e.code ≠ bits) →
            exec .routeWrite s = answer 0x23 q .badRoute (old.recipe.entry i c).code) ∧
          ∀ e : RouteEntry, e.valid = true → e.priority ≤ 15 → e.code = bits →
            let w := { e with priority := min 7 e.priority }
            exec .routeWrite s = answer 0x23 { q with rcp := { s.rcp with
                slots := s.rcp.slots.set k { old with state := .edit, recipe := old.recipe.setEntry i c w }
                psw := if old.state = .armed then none else s.rcp.psw } }
              (if 7 < e.priority then .clamped else .ok) w.code))

/-- RECIPE COPY, ARM, DISARM and FREE, each by the table of its rule (R88, R89, R90). A sub-operation that the layout does not define is
BAD_ARG (R164); the row RECIPE_STATUS serves it (log entry 1). Every reply shows the store after the request, a refusal too (log entry 9),
in the layout of section 10.7, with the pending flag 1 while a switch is pending (DESIGN CHOICE, log entry 14). -/
def Obligations.RecipeSlotsAreCopiedArmedAndFreed : Prop :=
  ∀ (sub a b offset : Nat) (rest : List Frame) (s : State), sub < 256 → a < 256 → b < 256 →
    s.Waits .supervisor 0x24 (le 1 sub ++ le 1 a ++ le 1 b ++ le 4 offset) rest →
    let q := s.popped .supervisor rest
    let answer (t : State) (status : Status) : Host.Outcome State Fault Refusal :=
      .next (t.replied .supervisor 0x24 status t.recipeRest)
    let setSlot (k : Fin 3) (c : Slot) : State := { q with rcp := { s.rcp with slots := s.rcp.slots.set k c } }
    (sub = 0 → 2 < a ∨ 2 < b → exec .recipeCopy s = answer q .badArg) ∧
    (∀ i k : Fin 3, sub = 0 → a = i.val → b = k.val →
      (s.rcp.slots[k].state = .free ∨ s.rcp.slots[k].state = .edit → exec .recipeCopy s =
        answer (setSlot k { s.rcp.slots[k] with state := .edit, recipe := s.rcp.slots[i].recipe }) .ok) ∧
      (s.rcp.slots[k].state ≠ .free → s.rcp.slots[k].state ≠ .edit → exec .recipeCopy s = answer q .inUse)) ∧
    (sub = 1 → 2 < a → exec .recipeArm s = answer q .badArg) ∧
    (∀ k : Fin 3, sub = 1 → a = k.val →
      (s.rcp.slots[k].state = .edit → (∀ j : Fin 3, s.rcp.slots[j].state ≠ .armed) →
        exec .recipeArm s = answer (setSlot k { s.rcp.slots[k] with state := .armed }) .ok) ∧
      (s.rcp.slots[k].state = .edit → (∃ j : Fin 3, s.rcp.slots[j].state = .armed) → exec .recipeArm s = answer q .busy) ∧
      (s.rcp.slots[k].state = .armed → exec .recipeArm s = answer q .ok) ∧
      (s.rcp.slots[k].state ≠ .edit → s.rcp.slots[k].state ≠ .armed → exec .recipeArm s = answer q .conflict)) ∧
    (sub = 2 → 2 < a → exec .recipeDisarm s = answer q .badArg) ∧
    (∀ k : Fin 3, sub = 2 → a = k.val →
      (s.rcp.slots[k].state = .armed → exec .recipeDisarm s = answer { q with rcp := { s.rcp with
        slots := s.rcp.slots.set k { s.rcp.slots[k] with state := .edit }, psw := none } } .ok) ∧
      (s.rcp.slots[k].state = .edit → exec .recipeDisarm s = answer q .ok) ∧
      (s.rcp.slots[k].state ≠ .edit → s.rcp.slots[k].state ≠ .armed → exec .recipeDisarm s = answer q .conflict)) ∧
    (sub = 3 → 2 < a → exec .recipeFree s = answer q .badArg) ∧
    (∀ k : Fin 3, sub = 3 → a = k.val →
      (s.rcp.slots[k].state = .edit ∨ s.rcp.slots[k].state = .armed ∧ s.rcp.psw = none → exec .recipeFree s =
        answer (setSlot k { state := .free, refs := 0, recipe := Recipe.default s.line.rotorMaxRpm }) .ok) ∧
      (s.rcp.slots[k].state = .armed → s.rcp.psw ≠ none → exec .recipeFree s = answer q .busy) ∧
      (s.rcp.slots[k].state = .free → exec .recipeFree s = answer q .ok) ∧
      (s.rcp.slots[k].state = .active ∨ s.rcp.slots[k].state = .draining → exec .recipeFree s = answer q .inUse)) ∧
    (5 < sub → exec .recipeStatus s = answer q .badArg) ∧
    ∀ t : State, t.StoreReads t.recipeRest ∧ (t.rcp.psw ≠ none → byteAt t.recipeRest 10 = 1)

/-- RECIPE STATUS answers, for each of the three slots, its slot state and its reference count, with the pending switch position and the
number of the ARMED slot, in the layout of section 10.7, and changes nothing but the queues (R94). -/
def Obligations.RecipeStatusShowsTheStore : Prop :=
  ∀ (a b offset : Nat) (rest : List Frame) (s : State),
    s.Waits .supervisor 0x24 (le 1 5 ++ le 1 a ++ le 1 b ++ le 4 offset) rest →
    ∃ store : List Byte, s.StoreReads store ∧
      exec .recipeStatus s = .next ((s.popped .supervisor rest).replied .supervisor 0x24 .ok store)

/-- RECIPE SWITCH, by the tests of R91 in their order: CONFLICT with no slot ARMED, BUSY with a slot DRAINING or a switch pending; else
the switch position is the present one plus the offset, held at 1,048,576 with CLAMPED. With an offset of 0 the switch takes effect before
the reply is formed; a pending one takes effect at the advance to Psw, and a cancelled one does not (R92): the ARMED slot is ACTIVE, the
old one DRAINING or FREE, no switch is pending, SWITCH_MARK runs for 10 ms (R169), and ECS evaluates demand and rotor state (R137, R138,
R148). A refused reply shows the store too (log entry 9). -/
def Obligations.SwitchIsSetOrTakesEffect : Prop :=
  ∀ (a b offset : Nat) (rest : List Frame) (s : State), offset < 4294967296 →
    s.Waits .supervisor 0x24 (le 1 4 ++ le 1 a ++ le 1 b ++ le 4 offset) rest →
    let q := s.popped .supervisor rest
    let answer (t : State) (status : Status) : Host.Outcome State Fault Refusal :=
      .next (t.replied .supervisor 0x24 status t.recipeRest)
    ((∀ k : Fin 3, s.rcp.slots[k].state ≠ .armed) → exec .recipeSwitch s = answer q .conflict) ∧
    ((∃ k : Fin 3, s.rcp.slots[k].state = .armed) →
      (∃ k : Fin 3, s.rcp.slots[k].state = .draining) ∨ s.rcp.psw ≠ none → exec .recipeSwitch s = answer q .busy) ∧
    ((∃ k : Fin 3, s.rcp.slots[k].state = .armed) → (∀ k : Fin 3, s.rcp.slots[k].state ≠ .draining) → s.rcp.psw = none →
      (0 < offset → exec .recipeSwitch s =
        answer { q with rcp := { s.rcp with psw := some (s.here + BitVec.ofNat 32 (min 1048576 offset)) } }
          (if 1048576 < offset then .clamped else .ok)) ∧
      (offset = 0 → ∃ t : State, exec .recipeSwitch s = answer t .ok ∧ t.slink = q.slink ∧ s.Switches t)) ∧
    (∀ t : State, t.StoreReads t.recipeRest) ∧
    ∀ coils : Vector Sample 32,
      let t := s.bringAbout coils .switch
      (s.rcp.psw = some s.here → s.Switches t ∧ Within [.slots, .psw, .switchMark, .ecs] s t) ∧ (s.rcp.psw ≠ some s.here → t = s)

/-! ### The table and the records -/

/-- RECORD_READ and RECORD_FIND answer with the live record of the tag, or the one that the LOCATE rule finds (R53, R55), in the record
layout of section 10.7; TABLE_SUMMARY with the numbers of R64; TOTALS_READ with the seven totals, and TOTALS_CLEAR sets all seven to 0
(R63). None of them changes anything else but the queues. -/
def Obligations.TableIsReadAndTotalsAreCleared : Prop :=
  ∀ (rest : List Frame) (s : State),
    let q := s.popped .supervisor rest
    let answer (kind : Nat) (t : State) (status : Status) (body : List Byte) : Host.Outcome State Fault Refusal :=
      .next (t.replied .supervisor kind status body)
    let zeros : List Byte := List.replicate 40 0
    let live (st : RecState) : Nat := (s.tab.records.filter fun r => r.state == st).length
    (∀ r : Record, r.Reads r.bytes) ∧
    (∀ tag, tag < 65536 → s.Waits .supervisor 0x28 (le 2 tag) rest →
      (tag = 0 → exec .recordRead s = answer 0x28 q .badArg zeros) ∧
      (tag ≠ 0 → s.find tag = none → exec .recordRead s = answer 0x28 q .noSuch zeros) ∧
      (∀ r, tag ≠ 0 → s.find tag = some r → exec .recordRead s = answer 0x28 q .ok r.bytes)) ∧
    (∀ p coil, p < 4294967296 → coil < 256 → s.Waits .supervisor 0x29 (le 4 p ++ le 1 coil) rest →
      (31 < coil → exec .recordFind s = answer 0x29 q .badArg zeros) ∧
      (coil ≤ 31 → s.locate (BitVec.ofNat 32 p) coil = none → exec .recordFind s = answer 0x29 q .noSuch zeros) ∧
      (∀ r, coil ≤ 31 → s.locate (BitVec.ofNat 32 p) coil = some r → exec .recordFind s = answer 0x29 q .ok r.bytes)) ∧
    (s.Waits .supervisor 0x2D [] rest → exec .tableSummary s = answer 0x2D q .ok
      (le 2 (live .opened) ++ le 2 (live .pending) ++ le 2 (live .routed) ++ le 2 (live .airborne) ++ le 2 (live .settled) ++
        le 2 (256 - s.tab.records.length) ++ le 1 (s.seg.trackers.filter fun x => x.isBound).length ++
        le 1 (s.seg.trackers.filter fun x => !x.isBound).length ++ le 2 s.tab.queue.length)) ∧
    (s.Waits .supervisor 0x30 [] rest → exec .totalsRead s = answer 0x30 q .ok
      (le 4 s.tab.totals.ferrous ++ le 4 s.tab.totals.nonferrous ++ le 4 s.tab.totals.eject ++ le 4 s.tab.totals.residue ++
        le 4 s.tab.totals.diverted ++ le 4 s.tab.totals.cancelled ++ le 4 s.tab.totals.untracked)) ∧
    (s.Waits .supervisor 0x31 [] rest → exec .totalsClear s = answer 0x31
      { q with tab := { s.tab with
        totals := { ferrous := 0, nonferrous := 0, eject := 0, residue := 0, diverted := 0, cancelled := 0, untracked := 0 } } } .ok [])

/-- RECORD_OVERRIDE, by the tests of R80 in their order: BAD_ARG, BAD_ROUTE, NO_SUCH, TOO_LATE, IN_ACTION. For an OPEN or PENDING record
the entry, a priority above 7 as 7 with CLAMPED, becomes the forced route. A ROUTED record none of whose claims has begun takes it as its
route at once (R81): the old claims are withdrawn, the flag and the source follow, and each new action is placed by the tests of R107
against the lists so left, with the claims and the outcome that they give. The need set holds the tag afterwards if its E action is PLACED,
with what a move of the set brings (R139, R140, log entry 13). What a BAD_ROUTE reply reports of a live tag is the model's
reading (log entry 9). -/
def Obligations.OverrideForcesOrReplacesARoute : Prop :=
  ∀ (tag bits : Nat) (rest : List Frame) (s : State), tag < 65536 → bits < 65536 →
    s.Waits .supervisor 0x2A (le 2 tag ++ le 2 bits) rest →
    let q := s.popped .supervisor rest
    let answer (t : State) (status : Status) (state : Option RecState) : Host.Outcome State Fault Refusal :=
      .next (t.replied .supervisor 0x2A status (le 2 tag ++ [stateByte state]))
    (tag = 0 → exec .recordOverride s = answer q .badArg none) ∧
    (tag ≠ 0 → (∀ e : RouteEntry, e.valid = true → e.priority ≤ 15 → e.code ≠ bits) →
      exec .recordOverride s = answer q .badRoute ((s.find tag).map fun r => r.state)) ∧
    ∀ e : RouteEntry, tag ≠ 0 → e.valid = true → e.priority ≤ 15 → e.code = bits →
      let w := { e with priority := min 7 e.priority }
      let status : Status := if 7 < e.priority then .clamped else .ok
      (s.find tag = none → exec .recordOverride s = answer q .noSuch none) ∧
      ∀ r, s.find tag = some r →
        (r.state = .airborne ∨ r.state = .settled → exec .recordOverride s = answer q .tooLate (some r.state)) ∧
        (r.state = .routed → (∃ st, (r.outcome.get st).TellsBegun) → exec .recordOverride s = answer q .inAction (some .routed)) ∧
        (r.state = .opened ∨ r.state = .pending → exec .recordOverride s =
          answer (q.modRecord tag fun x => { x with forced := some w, flags := { x.flags with overridden := true } }) status
            (some r.state)) ∧
        ∀ c, r.state = .routed → (∀ st, ¬ (r.outcome.get st).TellsBegun) → r.closing = some c → r.tailGone = false →
          r.span.first ≤ r.span.last → r.span.last ≤ 31 →
          ∃ (t : State) (r' : Record), exec .recordOverride s = answer t status (some .routed) ∧ t.slink = q.slink ∧
            t.find tag = some r' ∧
            r' = { r with
              route := some w, flags := { r.flags with overridden := true }
              verdict := r.verdict.map fun v => { v with source := .supervisor }
              outcome := r'.outcome } ∧
            (∀ st : Station,
              (w.acts st = false → r'.outcome.get st = .none ∧ t.arb.lists st = s.listsWithout tag st) ∧
              (w.acts st = true → ({ s with arb := s.arb.without tag } : State).PlacesAction t r w c st)) ∧
            (tag ∈ t.ecs.need ↔ w.e ≠ .none ∧ r'.outcome.e = .placed) ∧ s.NeedMoves t

/-- RECORD_CANCEL, by the table of R58: BAD_ARG, NO_SUCH, TOO_LATE, IN_ACTION, and else the record is retired and counted CANCELLED. Its
claims leave every list, its tag leaves its pulses, and a pulse left with no owner its list (R117, R157); the tracker of an OPEN record
becomes a shadow that counts nothing (R38); its recipe slot loses a record (R56); and its tag leaves the need set (R139, R140). That a
refused reply carries the tag asked for, a tag that is not live among them, is the model's choice (log entry 9). -/
def Obligations.CancelRetiresAnUnsettledRecord : Prop :=
  ∀ (tag : Nat) (rest : List Frame) (s : State), tag < 65536 → s.Waits .supervisor 0x2B (le 2 tag) rest →
    let q := s.popped .supervisor rest
    let answer (t : State) (status : Status) : Host.Outcome State Fault Refusal :=
      .next (t.replied .supervisor 0x2B status (le 2 tag))
    let inAction : Prop := (∃ st, s.hasBegun tag st = true) ∨ s.hasOpenPulse tag = true
    (tag = 0 → exec .recordCancel s = answer q .badArg) ∧
    (tag ≠ 0 → s.find tag = none → exec .recordCancel s = answer q .noSuch) ∧
    ∀ r, tag ≠ 0 → s.find tag = some r →
      (r.state = .settled → exec .recordCancel s = answer q .tooLate) ∧
      (r.state = .routed ∨ r.state = .airborne → inAction → exec .recordCancel s = answer q .inAction) ∧
      (r.state ≠ .settled → (r.state = .routed ∨ r.state = .airborne → ¬ inAction) →
        ∃ t, exec .recordCancel s = answer t .ok ∧ t.slink = q.slink ∧
          t.tab = { s.tab with
            records := s.tab.records.filter fun x => x.tag != tag
            queue := s.tab.queue.filter fun x => x != tag
            totals := { s.tab.totals with cancelled := min 4294967295 (s.tab.totals.cancelled + 1) } } ∧
          s.SlotLost t r.slot ∧
          (∀ st, t.arb.lists st = (s.arb.lists st).map fun l => l.filter fun c => c.owner != tag) ∧
          (∀ n : Fin 64, t.jet.pulses[n] =
            (s.jet.pulses[n].map fun p => { p with owners := p.owners.filter fun x => x != tag }).filter fun p => p.owners != []) ∧
          t.seg.notes = s.seg.notes ∧
          t.seg.trackers = s.seg.trackers.map (fun x => if x.kind = .bound tag then { x with kind := .shadow false } else x) ∧
          tag ∉ t.ecs.need ∧ s.NeedFollows t tag)

/-- COLLECT answers NO_SUCH on an empty settled queue, and else with the record at its head, which is then retired and counts nothing
further (R51, R52, R56), and is in no need (R139). The record is read out in the layout of section 10.7, the bits to which that gives no
meaning being 0 (DESIGN CHOICE, log entry 14). -/
def Obligations.CollectTakesTheOldestSettledRecord : Prop :=
  ∀ (rest : List Frame) (s : State), s.Waits .supervisor 0x2C [] rest →
    let q := s.popped .supervisor rest
    let answer (t : State) (status : Status) (body : List Byte) : Host.Outcome State Fault Refusal :=
      .next (t.replied .supervisor 0x2C status body)
    (∀ r : Record, r.Reads r.bytes ∧ r.SpareBitsClear r.bytes) ∧
    (s.tab.queue = [] → exec .collect s = answer q .noSuch (List.replicate 40 0)) ∧
    ∀ (tag : Nat) (later : List Nat) (r : Record), s.tab.queue = tag :: later → tag ∉ later → s.find tag = some r →
      ∃ t, exec .collect s = answer t .ok r.bytes ∧ t.slink = q.slink ∧ s.SlotLost t r.slot ∧
        t.tab = { s.tab with records := s.tab.records.filter fun x => x.tag != tag, queue := later } ∧
        tag ∉ t.ecs.need ∧ s.NeedFollows t tag

/-- The settle test (R49, R50, R51): a ROUTED or AIRBORNE record settles when no claim and no pulse of it is outstanding and the magnet has
lifted it or its tail departure has been reached. Its disposition is the target bin if every action that is not NONE is DONE, and else
DIVERTED with the first station of the order M, E, A whose action failed; its tag joins the tail of the settled queue; and the total of the
disposition goes up by one (R62). Its tag is in no need any more, and a need set that so becomes empty starts the economy timer (R139,
R140). Where the test fails nothing changes. The tail departure is marked by `tailGone` (log entry 5). -/
def Obligations.SettledRecordsAreDisposedByTheirOutcomes : Prop :=
  ∀ (tag : Nat) (r : Record) (e : RouteEntry) (s : State), s.find tag = some r → r.route = some e →
    let settles : Prop := (r.state = .routed ∨ r.state = .airborne) ∧ (∀ st, s.hasClaims tag st = false) ∧
      s.hasPulse tag = false ∧ (e.m = .lift ∧ r.outcome.m = .done ∨ r.tailGone = true)
    let up (n : Nat) : Nat := min 4294967295 (n + 1)
    (¬ settles → s.trySettle tag = s) ∧
    (settles → ∃ (t : State) (d : Disposition), s.trySettle tag = t ∧
      e.DisposedAs r.outcome d ∧ tag ∉ t.ecs.need ∧ s.NeedFollows t tag ∧
      t.find tag = some { r with state := .settled, disposition := some d } ∧
      t.tab.queue = s.tab.queue ++ [tag] ∧ t.tab.tagCounter = s.tab.tagCounter ∧
      t.tab.totals =
        match d with
        | .bin .ferrous => { s.tab.totals with ferrous := up s.tab.totals.ferrous }
        | .bin .nonferrous => { s.tab.totals with nonferrous := up s.tab.totals.nonferrous }
        | .bin .eject => { s.tab.totals with eject := up s.tab.totals.eject }
        | .bin .residue => { s.tab.totals with residue := up s.tab.totals.residue }
        | .diverted _ => { s.tab.totals with diverted := up s.tab.totals.diverted })

/-! ### The claims -/

/-- The placement of one action, by the tests of R107 in their order: SKIPPED(OFFLINE) off READY; a SPIN is PLACED with no claim;
DENIED(LATE) once its start is reached; DENIED(CONFLICT) where a conflicting claim on its resources stands firm (R108); DENIED(CAPACITY)
where a list would hold more than 12; and else PLACED, with its claim on each resource of its set and no other, and every conflicting
action of lower priority pre-empted on all its resources (R109). The claim runs from R106's start to its end, both computed from the front
F, the tail T and the T64 of the placement. No other station's list changes. The span is one of the bar's coils, and the record has no
claim at the station yet. -/
def Obligations.PlacementIsTestedInOrder : Prop :=
  ∀ (tag : Nat) (st : Station) (s : State) (r : Record) (e : RouteEntry) (c : Closing), s.find tag = some r → r.route = some e →
    r.closing = some c → e.acts st = true → r.outcome.get st = .none → s.hasClaims tag st = false →
    r.span.first ≤ r.span.last → r.span.last ≤ 31 →
    s.PlacesAction (s.placeAction tag st) r e c st ∧ ∀ other, other ≠ st → (s.placeAction tag st).arb.lists other = s.arb.lists other

/-- A record's decision point (R46, R77, R78, R79, R139): a PENDING record becomes ROUTED. Its column is OVERLENGTH for a record of
overlength or continuation, 15 with no verdict, 14 below CONF_MIN of its own slot, and else the verdict's code; its route is the forced
route, with the source SUPERVISOR in its verdict, or else the entry of its own slot at the row of its signature and that column. Each action
of the route is then placed by the tests of R107, and one of kind NONE keeps the outcome NONE. The need set holds the tag afterwards if its
E action is PLACED (R139, log entry 13); where the set becomes non-empty the economy timer stops, where it becomes empty the timer starts,
and ECS evaluates the demand (R137, R140). The span is one of the bar's coils, the record has no outcome and no claim yet, and its tail
point is ahead (`tailGone`, log entry 5). -/
def Obligations.DecisionPointRoutesTheRecord : Prop :=
  ∀ (tag : Nat) (coils : Vector Sample 32) (s : State) (r : Record) (c : Closing), s.find tag = some r → r.state = .pending →
    r.closing = some c → r.outcome = ⟨.none, .none, .none⟩ → r.tailGone = false → (∀ st, s.hasClaims tag st = false) →
    r.span.first ≤ r.span.last → r.span.last ≤ 31 →
    let recipe := s.rcp.slots[r.slot].recipe
    let row : Fin 5 :=
      match c.signature with
      | .ferrous => 0
      | .nonferrous => 1
      | .stainless => 2
      | .mixed => 3
      | .faint => 4
    let t := s.bringAbout coils (.decision tag)
    ∃ (column : Column) (e : RouteEntry) (r' : Record), t.find tag = some r' ∧
      (r.flags.overlength = true ∨ r.flags.continued = true → column = .overlength) ∧
      (r.flags.overlength = false → r.flags.continued = false →
        (r.verdict = none → column = .col 15) ∧
        ∀ v, r.verdict = some v → (v.conf < recipe.params.confMin → column = .col 14) ∧
          (recipe.params.confMin ≤ v.conf → ∀ n : Fin 16, v.code = n.val → column = .col n)) ∧
      (∀ x, r.forced = some x → e = x) ∧
      (r.forced = none → (column = .overlength → e = recipe.overlength) ∧ ∀ n, column = .col n → e = recipe.rows[row][n]) ∧
      r' = { r with
        state := .routed, route := some e, column := some column, outcome := r'.outcome
        verdict := if r.forced = none then r.verdict else r.verdict.map fun v => { v with source := .supervisor } } ∧
      (∀ st : Station,
        (e.acts st = false → r'.outcome.get st = .none ∧ t.arb.lists st = s.arb.lists st) ∧
        (e.acts st = true → s.PlacesAction t r e c st)) ∧
      (tag ∈ t.ecs.need ↔ e.e ≠ .none ∧ r'.outcome.e = .placed) ∧ s.NeedMoves t

/-- The begin of an action at its start (R112, R115, R121, R125, R143): its claims are BEGUN, a PLACED outcome becomes ACTING, and the
station has acted. A LIFT with a COOLING segment in its set is DENIED(THERMAL) as a whole: its claims leave, no segment changes, and the
settle test is put to its record (R49, log entry 5). Else on
each segment of its set the tag joins the holding set, and a segment that is OFF or FALLING rises for MAG_RISE_MS and breaches the hold-off
watches; a HOLD_OFF opens a watch on each segment of its set, breached unless that is OFF; a NEAR or FAR commands each flap of its set,
which moves for FLAP_TRAVEL_MS unless it is commanded there already, and opens a landing watch with its marks clear. An EJECT or a GUARD
tells no station. -/
def Obligations.BegunActionTakesItsResources : Prop :=
  ∀ (tag : Nat) (st : Station) (k : ClaimKind) (coils : Vector Sample 32) (s : State) (r : Record) (e : RouteEntry),
    s.find tag = some r → r.route = some e → e.kind st = some k →
    s.ActionStands tag st (fun x => x.kind = k ∧ x.begun = false ∧ x.start = s.here) →
    let t := s.bringAbout coils (.begins tag st)
    let hot : Prop := k = .lift ∧ ∃ i : Fin 8, s.Holds tag .m i ∧ s.mag.segments[i].cooling = true
    t.lsig = { s.lsig with stations := s.lsig.stations.set st { (s.lsig.stations.get st) with acted := true } } ∧ t.jet = s.jet ∧
    (hot → t.mag = s.mag ∧ t.arb.lists .m = s.listsWithout tag .m ∧ ∃ r', t.find tag = some r' ∧
      r'.outcome.m = if r.outcome.m.inProgress then .denied .thermal else r.outcome.m) ∧ (hot → s.Judged t tag) ∧
    (¬ hot →
      t.arb.lists st = ((s.arb.lists st).map fun l => l.map fun x => if x.owner = tag then { x with begun := true } else x) ∧
      t.find tag = some { r with outcome := if r.outcome.get st = .placed then r.outcome.set st .acting else r.outcome } ∧
      Within [.tab, .arb, .mag, .ecs, .stations] s t ∧
      t.mag = { s.mag with segments := t.mag.segments } ∧ t.ecs = { s.ecs with flaps := t.ecs.flaps } ∧
      (∀ i : Fin 8,
        let g := s.mag.segments[i]
        (k = .lift → s.Holds tag .m i → t.mag.segments[i] =
          if g.power = .rising ∨ g.power = .on then { g with holding := g.holding ++ [tag] }
          else { g with
            power := .rising, completion := some (s.now + BitVec.ofNat 32 (s.line.magRiseMs * 1000)), holding := g.holding ++ [tag]
            watches := g.watches.map fun w => { w with breached := true } }) ∧
        (k = .holdOff → s.Holds tag .m i → t.mag.segments[i] =
          { g with watches := g.watches ++ [{ owner := tag, breached := decide (g.power ≠ .off) }] }) ∧
        (st ≠ .m ∨ ¬ s.Holds tag .m i → t.mag.segments[i] = g)) ∧
      ∀ i : Fin 4,
        let f := s.ecs.flaps[i]
        let opened (near : Bool) : LandingWatch := { owner := tag, near := near, armed := false, breached := false }
        let left (near : Bool) : List LandingWatch := f.watches.map fun w =>
          if w.armed = true ∧ w.near ≠ near then { w with breached := true } else w
        let travel : Option W32 := some (s.now + BitVec.ofNat 32 (s.line.flapTravelMs * 1000))
        (k = .near → s.Holds tag .e i → t.ecs.flaps[i] =
          if f.position = .atNear ∨ f.position = .movingNear then { f with watches := f.watches ++ [opened true] }
          else { position := .movingNear, completion := travel, watches := left true ++ [opened true] }) ∧
        (k = .far → s.Holds tag .e i → t.ecs.flaps[i] =
          if f.position = .atFar ∨ f.position = .movingFar then { f with watches := f.watches ++ [opened false] }
          else { position := .movingFar, completion := travel, watches := left false ++ [opened false] }) ∧
        (st ≠ .e ∨ ¬ s.Holds tag .e i → t.ecs.flaps[i] = f))

/-- The release of a LIFT (R113, R123): its tag leaves the holding set of each segment of its set, and a segment that is RISING or ON with
nothing held any more falls for MAG_FALL_MS and breaches the hold-off watches; the claims stay BEGUN and no outcome changes. The end of an
action (R114, R124, R125, R145): its claims leave their lists, and the outcome, unless it is final, becomes DONE, or for a HOLD_OFF, NEAR or
FAR one of whose watches is breached BREACHED; an EJECT's is left. The watches close, and the settle test is applied (R49, with the mark
`tailGone` of log entry 5). A record whose E action ends, or that settles, leaves the need set (R139, R140). -/
def Obligations.ReleasedLiftsFallAndEndedActionsAreJudged : Prop :=
  (∀ (tag : Nat) (coils : Vector Sample 32) (s : State),
    s.ActionStands tag .m (fun x => x.begun = true ∧ x.release = some s.here) →
    let t := s.bringAbout coils (.release tag)
    Within [.mag] s t ∧ t.mag = { s.mag with segments := t.mag.segments } ∧ ∀ i : Fin 8,
      let g := s.mag.segments[i]
      let left := g.holding.filter fun x => x != tag
      (¬ s.Holds tag .m i → t.mag.segments[i] = g) ∧
      (s.Holds tag .m i → t.mag.segments[i] =
        if left = [] ∧ (g.power = .rising ∨ g.power = .on) then
          { g with
            power := .falling, completion := some (s.now + BitVec.ofNat 32 (s.line.magFallMs * 1000)), holding := []
            watches := g.watches.map fun w => { w with breached := true } }
        else { g with holding := left })) ∧
  ∀ (tag : Nat) (st : Station) (k : ClaimKind) (coils : Vector Sample 32) (s : State) (r : Record) (e : RouteEntry),
    s.find tag = some r → r.route = some e → e.kind st = some k → r.state = .routed ∨ r.state = .airborne →
    s.ActionStands tag st (fun x => x.kind = k ∧ x.begun = true ∧ x.stop = s.here) →
    let t := s.bringAbout coils (.ends tag st)
    let breached : Prop :=
      match k with
      | .holdOff => ∃ i : Fin 8, ∃ w ∈ s.mag.segments[i].watches, w.owner = tag ∧ w.breached = true
      | .near => ∃ i : Fin 4, ∃ w ∈ s.ecs.flaps[i].watches, w.owner = tag ∧ w.breached = true
      | .far => ∃ i : Fin 4, ∃ w ∈ s.ecs.flaps[i].watches, w.owner = tag ∧ w.breached = true
      | _ => False
    t.arb.lists st = s.listsWithout tag st ∧ (∀ other, other ≠ st → t.arb.lists other = s.arb.lists other) ∧ t.jet = s.jet ∧
    t.mag = { s.mag with segments := t.mag.segments } ∧
    (∀ i : Fin 8, t.mag.segments[i] =
      if k = .holdOff then { s.mag.segments[i] with watches := s.mag.segments[i].watches.filter fun w => w.owner != tag }
      else s.mag.segments[i]) ∧
    (∀ i : Fin 4, t.ecs.flaps[i] =
      if k = .near ∨ k = .far then { s.ecs.flaps[i] with watches := s.ecs.flaps[i].watches.filter fun w => w.owner != tag }
      else s.ecs.flaps[i]) ∧
    ∃ r', t.find tag = some r' ∧ r' = { r with outcome := r'.outcome, state := r'.state, disposition := r'.disposition } ∧
      (k = .eject ∨ (r.outcome.get st).inProgress = false → r'.outcome = r.outcome) ∧
      (k ≠ .eject → (r.outcome.get st).inProgress = true →
        (breached → r'.outcome = r.outcome.set st .breached) ∧ (¬ breached → r'.outcome = r.outcome.set st .done)) ∧
      (let settles : Prop := (∀ x, t.hasClaims tag x = false) ∧ t.hasPulse tag = false ∧
        (e.m = .lift ∧ r'.outcome.m = .done ∨ r.tailGone = true)
       (settles → r'.state = .settled) ∧ (¬ settles → r'.state = r.state)) ∧
      (st = .e → (r.outcome.e).inProgress = true → tag ∉ t.ecs.need) ∧ (r'.state = .settled → tag ∉ t.ecs.need) ∧
      (∀ x, x ≠ tag → (x ∈ t.ecs.need ↔ x ∈ s.ecs.need)) ∧ s.NeedMoves t ∧ ((tag ∈ s.ecs.need ↔ r.Needs) → s.NeedStays t)

/-- A record's front departure (R47, R142, R145, R152, R153, R154): a ROUTED record is AIRBORNE with its departure field written. The rotor
check makes a SPIN DONE and arms the landing watches of a NEAR or FAR while the rotor is in RUN, a watch of a flap that does not stand at
the claimed position being breached; off RUN the action is DENIED(ROTOR) and its claims and watches go. An E action that becomes DONE or
DENIED takes the tag out of the need set (R139, R140). An EJECT in progress is DENIED(SLOW) unless the belt is RUNNING, DENIED(LATE) if its
pulse is trimmed too short, and DENIED(JET_FULL) if a nozzle of its set would overfill; else every nozzle of the set takes the pulse of
R153, joined by R154. A record's tail departure (R48, R50): its passing is marked (`tailGone`, log entry 5) and the settle test is applied;
a tag without the point, its record settled or retired since, is left alone. -/
def Obligations.DeparturesCheckTheRotorFireAndSettle : Prop :=
  (∀ (tag : Nat) (coils : Vector Sample 32) (s : State) (r : Record) (e : RouteEntry) (c : Closing), s.find tag = some r →
    r.state = .routed → r.route = some e → e.valid = true → r.closing = some c → r.tailGone = false →
    let t := s.bringAbout coils (.front tag)
    let inProgress (o : Result) : Prop := o = .placed ∨ o = .acting
    let checked : Prop := e.e ≠ .none ∧ inProgress r.outcome.e
    let fires : Prop := e.a = .eject ∧ inProgress r.outcome.a
    let running : Prop := s.ecs.rotor = .run
    ∃ r', t.find tag = some r' ∧
      r' = { r with state := .airborne, departure := some { tDep := s.now, t64Dep := s.pos.t64 }, outcome := r'.outcome } ∧
      r'.outcome.m = r.outcome.m ∧ t.arb.lists .m = s.arb.lists .m ∧ t.mag = s.mag ∧
      (¬ checked → r'.outcome.e = r.outcome.e ∧ t.arb.lists .e = s.arb.lists .e ∧ t.ecs.flaps = s.ecs.flaps) ∧
      (checked → running → t.arb.lists .e = s.arb.lists .e ∧
        (e.e = .spin → r'.outcome.e = .done ∧ t.ecs.flaps = s.ecs.flaps) ∧
        (e.e ≠ .spin → r'.outcome.e = r.outcome.e ∧ ∀ i : Fin 4,
          let f := s.ecs.flaps[i]
          let stands (near : Bool) : Bool :=
            match f.position with
            | .atNear => near
            | .atFar => !near
            | .movingNear => near && due s.now f.completion
            | .movingFar => !near && due s.now f.completion
          t.ecs.flaps[i] = { f with watches := f.watches.map fun w =>
            if w.owner = tag then { w with armed := true, breached := w.breached || !stands w.near } else w })) ∧
      (checked → ¬ running → r'.outcome.e = .denied .rotor ∧ t.arb.lists .e = s.listsWithout tag .e ∧ ∀ i : Fin 4,
        t.ecs.flaps[i] = { s.ecs.flaps[i] with watches := s.ecs.flaps[i].watches.filter fun w => w.owner != tag }) ∧
      (checked → ¬ running ∨ e.e = .spin → tag ∉ t.ecs.need) ∧ s.NeedFollows t tag ∧
      (let denied (why : Reason) : Prop :=
        r'.outcome.a = .denied why ∧ t.arb.lists .a = s.listsWithout tag .a ∧ t.jet = s.jet
       let q := s.paramsOf r
       let openAt : W32 := s.now + BitVec.ofNat 32 (s.line.dAir * s.pos.t64 / 64) - BitVec.ofNat 32 s.line.valveLat
       let width := min s.line.pulseMax (max s.line.pulseMin (c.length * s.pos.t64 / 64 + q.padUs))
       let closeAt : W32 := openAt + BitVec.ofNat 32 width
       let trimmed : Bool := reached s.now openAt
       let short : Prop := trimmed = true ∧ ¬ (s.line.pulseMin ≤ (closeAt - s.now).toNat ∧ (closeAt - s.now).toNat < 2 ^ 31)
       let pulse : Pulse := { openAt := if trimmed then s.now else openAt, closeAt := closeAt, owners := [tag], isOpen := false }
       let within (n : Nat) : Prop := 2 * r.span.first - q.nozMargin ≤ n ∧ n ≤ min 63 (2 * r.span.last + 1 + q.nozMargin)
       let joined (n : Fin 64) : Pulse × List Pulse := addPulse s.now s.line.jetGap pulse s.jet.pulses[n]
       let full : Prop := ∃ n : Fin 64, within n ∧ (4 < (joined n).2.length ∨ 4 < (joined n).1.owners.length)
       (¬ fires → r'.outcome.a = r.outcome.a ∧ t.arb.lists .a = s.arb.lists .a ∧ t.jet = s.jet) ∧
       (fires → s.pos.belt ≠ .running → denied .slow) ∧
       (fires → s.pos.belt = .running → short → denied .late) ∧
       (fires → s.pos.belt = .running → ¬ short → full → denied .jetFull) ∧
       (fires → s.pos.belt = .running → ¬ short → ¬ full →
         r'.outcome.a = r.outcome.a ∧ t.arb.lists .a = s.arb.lists .a ∧ t.jet.okWatch = s.jet.okWatch ∧ ∀ n : Fin 64,
           (within n → t.jet.pulses[n] = (joined n).2) ∧ (¬ within n → t.jet.pulses[n] = s.jet.pulses[n])))) ∧
  ∀ (tag : Nat) (coils : Vector Sample 32) (s : State),
    let t := s.bringAbout coils (.tail tag)
    let departs (r : Record) : Prop := r.state ≠ .settled ∧ ∃ c, r.closing = some c ∧ c.t + BitVec.ofNat 32 s.line.pHead = s.here
    (∀ r, s.find tag = some r → departs r → t = ({ s with tab := { s.tab with
      records := s.tab.records.map fun x => if x.tag = tag then { x with tailGone := true } else x } } : State).trySettle tag) ∧
    ((∀ r, s.find tag = some r → ¬ departs r) → t = s)

/-- The joining of a new pulse with those of a nozzle (R154, R151): it is joined with each pulse that stands within JET_GAP of it or of one
already joined, until no pulse of the list stands within JET_GAP of the pulse so formed. That opens at the earliest open time, closes at
the latest close time, carries the union of the owner tags, and is OPEN if one of them was or its open time is reached. The others stay, and
the list keeps the order of open times. The times lie within a quarter of the time counter's range of now, and no pulse closes before it
opens. -/
def Obligations.PulsesWithinTheGapAreJoined : Prop :=
  ∀ (now : W32) (gap : Nat) (p : Pulse) (l : List Pulse),
    let at' (x : W32) : Nat := (x - now + BitVec.ofNat 32 (2 ^ 30)).toNat
    (∀ x ∈ p :: l, at' x.openAt ≤ at' x.closeAt ∧ at' x.closeAt < 2 ^ 31 ∧ x.owners.Nodup) →
    let close (x y : Pulse) : Prop := at' x.openAt ≤ at' y.closeAt + gap ∧ at' y.openAt ≤ at' x.closeAt + gap
    let q := (addPulse now gap p l).1
    let l' := (addPulse now gap p l).2
    ∃ gone rest : List Pulse, l.Perm (gone ++ rest) ∧ rest.Sublist l ∧ l'.Perm (q :: rest) ∧
      (∀ x ∈ rest, ¬ close q x) ∧
      (∀ before x behind, gone = before ++ x :: behind → ∃ y ∈ p :: before, close x y) ∧
      (∃ x ∈ p :: gone, q.openAt = x.openAt) ∧ (∀ x ∈ p :: gone, at' q.openAt ≤ at' x.openAt) ∧
      (∃ x ∈ p :: gone, q.closeAt = x.closeAt) ∧ (∀ x ∈ p :: gone, at' x.closeAt ≤ at' q.closeAt) ∧
      q.owners.Nodup ∧ (∀ o, o ∈ q.owners ↔ ∃ x ∈ p :: gone, o ∈ x.owners) ∧
      (q.isOpen = true ↔ (∃ x ∈ p :: gone, x.isOpen = true) ∨ reached now q.openAt = true) ∧
      ((l.Pairwise fun x y => at' x.openAt ≤ at' y.openAt) → l'.Pairwise fun x y => at' x.openAt ≤ at' y.openAt)

/-! ### The stations and the line signals -/

/-- STATION_SET and CENSUS (R165, R166): an unknown station or command is BAD_ARG. OFFLINE is taken in any state; ONLINE and CENSUS are
BUSY under E-stop, and else start a census, in which a station whose OK input is asserted is READY at once. A station that was READY
leaves it with reason OFFLINE, and its block gives up what it holds (R116, R132, R133, R146, R147, R158, R159), its lists emptied also of
actions whose outcome is final (DEDUCED, log entry 6). The settle test is put to each record that a leaving concerns, and to no other (R49,
log entry 5). Station E's demand follows R137, with the rotor state and the two watches of R141, where the rotor's state hangs together
before it (RotorSound). Each reply shows the three states after the request, a refusal too, an unknown
station is BAD_ARG under E-stop too (log entry 9), and an undefined command is STATION_SET_OFFLINE's (log entry 1). -/
def Obligations.StationsGoOfflineOrIntoACensus : Prop :=
  ∀ (rest : List Frame) (s : State),
    let q := s.popped .supervisor rest
    let answer (kind : Nat) (t : State) (status : Status) : Host.Outcome State Fault Refusal :=
      .next (t.replied .supervisor kind status [(t.avail .m).code, (t.avail .e).code, (t.avail .a).code])
    let acted (st : Station) : Bool := (s.lsig.stations.get st).acted
    let info (st : Station) (ok : Bool) : StationInfo := censused ok s.now s.line.censusWaitMs (acted st)
    let okE := s.inputs.driveOk && s.inputs.flapOk
    let okOf (st : Station) : Bool :=
      match st with
      | .m => s.inputs.magOk
      | .e => okE
      | .a => s.inputs.jetOk
    (∀ station command, station < 256 → command < 256 → s.Waits .supervisor 0x34 (le 1 station ++ le 1 command) rest →
      (command ≠ 1 → 2 < station ∨ command ≠ 0 → exec .stationSetOffline s = answer 0x34 q .badArg) ∧
      (command = 1 → 2 < station → exec .stationSetOnline s = answer 0x34 q .badArg) ∧
      (∀ st : Station, command = 0 → station = stationCode st → ∃ t, exec .stationSetOffline s = answer 0x34 t .ok ∧
        t.slink = q.slink ∧ (s.avail st = .ready → s.Left t st .offline) ∧
        s.JudgedAtLeaving t (fun x => x = st ∧ s.avail st = .ready) .offline ∧ (st = .e → s.RotorSound → s.RotorAfresh t) ∧
        t.lsig = { s.lsig with stations := s.lsig.stations.set st { avail := .offline, wait := none, acted := acted st } }) ∧
      ∀ st : Station, command = 1 → station = stationCode st →
        (s.lsig.estop = true → exec .stationSetOnline s = answer 0x34 q .busy) ∧
        (s.lsig.estop = false → ∃ t, exec .stationSetOnline s = answer 0x34 t .ok ∧
          t.slink = q.slink ∧ (s.avail st = .ready → s.Left t st .offline) ∧
          s.JudgedAtLeaving t (fun x => x = st ∧ s.avail st = .ready) .offline ∧ (st = .e → s.RotorSound → s.RotorAfresh t) ∧
          t.lsig = { s.lsig with stations := s.lsig.stations.set st (info st (okOf st)) })) ∧
    (s.Waits .supervisor 0x36 [] rest →
      (s.lsig.estop = true → exec .census s = answer 0x36 q .busy) ∧
      (s.lsig.estop = false → ∃ t, exec .census s = answer 0x36 t .ok ∧ t.slink = q.slink ∧
        (∀ st, s.avail st = .ready → s.Left t st .offline) ∧
        s.JudgedAtLeaving t (fun st => s.avail st = .ready) .offline ∧ (s.RotorSound → s.RotorAfresh t) ∧
        t.lsig = { s.lsig with
          stations := { m := info .m s.inputs.magOk, e := info .e okE, a := info .a s.inputs.jetOk } }))

/-- STATION_STATUS answers each station's state and acted flag, and clears the three flags (R166). ALERT_CLEAR clears every latch of its
set, the link cause with LINK, and answers the latches as they then stand (R168). STATUS answers the snapshot of R170 in the layout of
section 10.7, and changes nothing but the queues. That a flag is sent as 1 where it is set and 0 where it is clear, that coil and segment k
stand at bit k of the FAULTED and COOLING sets, and that a bit without a meaning is 0 are choices of the model (DESIGN CHOICE, log entry
14). -/
def Obligations.FlagsAlertsAndStatusAreRead : Prop :=
  (∀ (rest : List Frame) (s : State),
    let q := s.popped .supervisor rest
    let b := s.lsig.stations
    (s.Waits .supervisor 0x35 [] rest → exec .stationStatus s =
      .next ({ q with lsig := { s.lsig with
          stations := ⟨{ b.m with acted := false }, { b.e with acted := false }, { b.a with acted := false }⟩ }
        }.replied .supervisor 0x35 .ok [b.m.avail.code, flagByte b.m.acted, b.e.avail.code, flagByte b.e.acted, b.a.avail.code,
          flagByte b.a.acted])) ∧
    ∀ set, set < 65536 → s.Waits .supervisor 0x39 (le 2 set) rest →
      let left := s.lsig.alerts &&& ~~~ BitVec.ofNat 10 set
      exec .alertClear s = .next ({ q with lsig := { s.lsig with
          alerts := left, linkCause := if set.testBit 1 then none else s.lsig.linkCause } }.replied .supervisor 0x39 .ok
        (le 2 left.toNat))) ∧
  ∀ (rest : List Frame) (s : State), s.Waits .supervisor 0x38 [] rest →
    ∃ (faulted : BitVec 32) (cooling : BitVec 8),
      (∀ k : Fin 32, faulted.getLsbD k = s.scan.coils[k].faulted) ∧ (∀ k : Fin 8, cooling.getLsbD k = s.mag.segments[k].cooling) ∧
      exec .status s = .next ((s.popped .supervisor rest).replied .supervisor 0x38 .ok
        (le 4 s.pos.position.toNat ++ le 3 s.pos.t64 ++
          [s.pos.belt.code, flagByte s.lsig.estop, flagByte (decide (s.scan.settling < 64))] ++
          le 4 faulted.toNat ++ le 1 cooling.toNat ++
          [s.ecs.rotor.code, s.ecs.demandKind.code, flagByte s.ecs.economy.isSome] ++
          [(s.avail .m).code, (s.avail .e).code, (s.avail .a).code] ++
          le 2 s.lsig.alerts.toNat ++ [causeByte s.lsig.linkCause]))

/-- The output terminals, each as the state stands (R67, R120, R137, R138, R143, R151, R163, R165, R168, R169, section 10.8): a segment's
drive while RISING or ON, a flap's while commanded near, a nozzle's while a pulse of it is OPEN, the rotor duty in parts per thousand, the
enable of a station while INTERROGATING or READY; an aux terminal of function 2, 3 or 4 shows ALERT, SWITCH_MARK or AT_SPEED, and any other
is not driven; a link sends the frame at the head of its transmit queue. -/
def Obligations.OutputsShowTheState : Prop :=
  ∀ s : State,
    (∀ k : Fin 8, s.magDrv k = true ↔ s.mag.segments[k].power = .rising ∨ s.mag.segments[k].power = .on) ∧
    (∀ k : Fin 4, s.flapDrv k = true ↔ s.ecs.flaps[k].position = .atNear ∨ s.ecs.flaps[k].position = .movingNear) ∧
    (∀ n : Fin 64, s.jetDrv n = true ↔ ∃ p ∈ s.jet.pulses[n], p.isOpen = true) ∧
    s.rotorDuty = s.ecs.demandValue * 1000 / s.line.rotorMaxRpm ∧
    (∀ st, s.enable st = true ↔ s.avail st = .interrogating ∨ s.avail st = .ready) ∧
    (∀ k : Fin 8,
      (s.line.auxFn[k] = 2 → ∃ level, s.auxDrive k = some level ∧
        (level = true ↔ ∃ a : Fin 10, s.lsig.alerts.getLsbD a = true ∧ s.line.alertMask.getLsbD a = true)) ∧
      (s.line.auxFn[k] = 3 → s.auxDrive k = some (decide (s.lsig.switchMark ≠ none))) ∧
      (s.line.auxFn[k] = 4 → s.auxDrive k = some (decide (s.ecs.rotor = .run))) ∧
      (s.line.auxFn[k] ≠ 2 → s.line.auxFn[k] ≠ 3 → s.line.auxFn[k] ≠ 4 → s.auxDrive k = none)) ∧
    ∀ l : Link, ((s.link l).txQueue = [] → s.sending l = []) ∧ ∀ f rest, (s.link l).txQueue = f :: rest →
      ∃ crc : BitVec 16, crc = crc16 (BitVec.ofNat 8 (f.body.length + 1) :: f.kind :: f.body) ∧
        s.sending l = [0xA5#8, BitVec.ofNat 8 (f.body.length + 1), f.kind] ++ f.body ++
          [BitVec.ofNat 8 (crc.toNat / 256), BitVec.ofNat 8 crc.toNat]

/-- PURGE (R38, R59, R101, R117, R134, R149, R161, R171): every record is retired, each that was not SETTLED counted CANCELLED, the lists
and pulses are emptied, bound trackers become shadows that count nothing, DRAINING slots are FREE, driven segments fall, and watches are
discarded. An emptied need set starts the economy timer, so that a READY rotor stays at its run speed. What the tables say is kept is
kept. The slots have the shape that every run keeps (TableSlotsAndRotorStaySound). -/
def Obligations.PurgeEmptiesTheTableAndTheLists : Prop :=
  ∀ (rest : List Frame) (s : State), s.SlotsSound → s.Waits .supervisor 0x3D [] rest →
    ∃ t : State, exec .purge s = .next (t.replied .supervisor 0x3D .ok []) ∧ t.slink = (s.popped .supervisor rest).slink ∧
      t.tab = s.tab.emptied s.tab.tagCounter ∧ t.NothingClaimed ∧ s.SlotsEmptied t ∧ t.rcp.psw = s.rcp.psw ∧
      t.seg.notes = s.seg.notes ∧
      t.seg.trackers = s.seg.trackers.map (fun x =>
        { x with kind := match x.kind with
            | .bound _ => .shadow false
            | .shadow counts => .shadow counts }) ∧
      t.jet.okWatch = s.jet.okWatch ∧ t.mag = { s.mag with segments := t.mag.segments } ∧
      (∀ k : Fin 8, t.mag.segments[k] =
        let g := s.mag.segments[k]
        if g.driven then
          { g with
            power := .falling, completion := some (s.now + BitVec.ofNat 32 (s.line.magFallMs * 1000)), holding := [], watches := [] }
        else { g with holding := [], watches := [] }) ∧
      (∀ k : Fin 4, t.ecs.flaps[k] = { s.ecs.flaps[k] with watches := [] }) ∧ t.ecs.need = [] ∧
      t.ecs.driveWatch = s.ecs.driveWatch ∧ t.ecs.flapWatch = s.ecs.flapWatch ∧ t.ecs.speed = s.ecs.speed ∧
      t.ecs.lastTach = s.ecs.lastTach ∧ t.ecs.tachTimeout = s.ecs.tachTimeout ∧
      (s.ecs.need = [] → t.ecs = { s.ecs with flaps := t.ecs.flaps }) ∧
      (s.ecs.need ≠ [] → t.ecs.economy = some (s.now + BitVec.ofNat 32 (s.line.econHoldMs * 1000)) ∧
        s.DemandEvaluated t ∧
        (s.avail .e = .ready → s.lsig.estop = false → t.ecs.demandKind = .run ∧ t.ecs.demandValue = s.activeParams.runRpm))

/-- RESTART (R18, R25, R39, R60, R68, R101, R117, R134, R149, R161, R171): what PURGE does, then each block's own part, then the latches,
the link cause, the acted flags and SWITCH_MARK, and unless E-stop is asserted a census of all three stations. The time counter, the
baselines, the heat accounts with COOLING, the flaps' travel, the totals and the link queues but the classifier's received requests are
kept, and so are the completion time and the latest advance time, which R18 names nowhere (DESIGN CHOICE, log entry 14). The slots have the
shape that every run keeps (TableSlotsAndRotorStaySound). -/
def Obligations.RestartPutsEachBlockBack : Prop :=
  ∀ (rest : List Frame) (s : State), s.SlotsSound → s.Waits .supervisor 0x3C [] rest →
    ∃ t : State, exec .restart s = .next (t.replied .supervisor 0x3C .ok []) ∧ t.slink = (s.popped .supervisor rest).slink ∧
      t.clink = { s.clink with rxQueue := [] } ∧
      t.pos = { s.pos with
        position := 0, backlash := 0, groupCount := 0, completionsSeen := 0, t64 := 1048575, belt := .stopped, stopTimer := none } ∧
      t.scan.settling = 0 ∧
      (∀ k : Fin 32, t.scan.coils[k] = { k := s.scan.coils[k].k, active := false, stuck := 0, faulted := false }) ∧
      t.seg.trackers = [] ∧ t.seg.notes = [] ∧ t.tab = s.tab.emptied 1 ∧ t.NothingClaimed ∧ s.SlotsEmptied t ∧ t.rcp.psw = none ∧
      t.jet.okWatch = none ∧ t.mag = { s.mag with segments := t.mag.segments, okWatch := none } ∧
      (∀ k : Fin 8, t.mag.segments[k] = { s.mag.segments[k] with power := .off, holding := [], completion := none, watches := [] }) ∧
      (∀ k : Fin 4, t.ecs.flaps[k] = { s.ecs.flaps[k] with watches := [] }) ∧ t.ecs.need = [] ∧ t.ecs.economy = none ∧
      t.ecs.driveWatch = none ∧ t.ecs.flapWatch = none ∧ t.ecs.speed = s.ecs.speed ∧ t.ecs.lastTach = s.ecs.lastTach ∧
      t.ecs.tachTimeout = s.ecs.tachTimeout ∧
      (let okE := s.inputs.driveOk && s.inputs.flapOk
       let info (st : Station) (ok : Bool) : StationInfo :=
         if s.lsig.estop then { (s.lsig.stations.get st) with acted := false } else censused ok s.now s.line.censusWaitMs false
       t.lsig = { s.lsig with
         alerts := 0, linkCause := none, switchMark := none
         stations := { m := info .m s.inputs.magOk, e := info .e okE, a := info .a s.inputs.jetOk } } ∧
       (s.lsig.estop = true ∨ okE = false → t.ecs.demandKind = .none ∧ t.ecs.demandValue = 0) ∧
       (s.lsig.estop = false → okE = true →
         if s.activeParams.econEn = 0 then t.ecs.demandKind = .run ∧ t.ecs.demandValue = s.activeParams.runRpm
         else t.ecs.demandKind = .idle ∧ t.ecs.demandValue = s.activeParams.idleRpm) ∧
       (s.RotorSound → s.RotorAfresh t))

/-! ### The whole part -/

/-- A latch stays set until ALERT_CLEAR, RESTART or a hard reset (R168, R171, R172), and no total falls, or passes 32 bits, but for
TOTALS_CLEAR and a hard reset (R62). -/
def Obligations.LatchesAndTotalsOnlyGrow : Prop :=
  ∀ (c : Instr) (s t : State), exec c s = .next t → (∀ levels, c ≠ .hardReset levels) →
    (∀ a : Alert, c ≠ .alertClear → c ≠ .restart → s.latched a = true → t.latched a = true) ∧
    ∀ total ∈ [Totals.ferrous, Totals.nonferrous, Totals.eject, Totals.residue, Totals.diverted, Totals.cancelled, Totals.untracked],
      total s.tab.totals ≤ 4294967295 → total t.tab.totals ≤ 4294967295 ∧
        (c ≠ .totalsClear → total s.tab.totals ≤ total t.tab.totals)

/-- The reset state meets every invariant. -/
def Obligations.InvariantsHoldAtReset : Prop :=
  let s := State.reset
  s.ParamsInRange ∧ s.EntriesPassed ∧ s.HeatBounded ∧ s.MeasuresInRange ∧ s.StopHolds ∧ s.QueuesFit ∧ s.ListsFit ∧ s.TableSound ∧
    s.SlotsSound ∧ s.RotorSound

/-- Every step keeps every parameter in its range and within its bonds, and every route entry of a recipe or a record valid with a priority
of 0..7 (R75, R97, R98, R99). -/
def Obligations.ParametersAndEntriesStaySound : Prop :=
  ∀ s t : State, s.ParamsInRange → s.EntriesPassed → step s = .next t → t.ParamsInRange ∧ t.EntriesPassed

/-- Every step keeps the heat accounts within HEAT_MAX + 94, with no COOLING segment's drive on (R127, R129), and what POS and SCAN hold in
the ranges of their tables (R4, R11, R20, R23, R24). -/
def Obligations.HeatAndMeasuresStayBounded : Prop :=
  ∀ s t : State, s.ParamsInRange → s.HeatBounded → s.MeasuresInRange → step s = .next t → t.HeatBounded ∧ t.MeasuresInRange

/-- Every step keeps every station OFFLINE while E-stop is asserted (R167), every queue within its places (R65, R66, R164), every resource
list within 12 claims (R103), and every nozzle within 4 pulses of 4 owners (R151). -/
def Obligations.StopQueuesAndListsStaySound : Prop :=
  ∀ s t : State, step s = .next t →
    (s.StopHolds → t.StopHolds) ∧ (s.QueuesFit → t.QueuesFit) ∧ (s.ListsFit → t.ListsFit)

/-- Every step keeps the table sound, the settled queue and the trackers with it (R41, R44, R45, R51), the recipe slots (R86, R91, R93), and
the rotor's state: the need set is that of R139, the demand that of R137, the rotor state that of R138, and the economy timer, the spin-up
watch and the stall watch run only where R140 and R141 let them. -/
def Obligations.TableSlotsAndRotorStaySound : Prop :=
  ∀ s t : State, s.TableSound → s.SlotsSound → step s = .next t →
    t.TableSound ∧ t.SlotsSound ∧ (s.RotorSound → t.RotorSound)
end

