-- ==== Sys2Proof/Laws/State.lean ====
section
/-! SUPPORT. One lemma for each field of State under each update of it, so that no later proof unfolds a record update. -/

namespace Sys2Proof.Machine

/-! ### State.modInputs -/

@[simp] theorem State.modInputs_inputs (f : Inputs → Inputs) (s : State) : (s.modInputs f).inputs = f s.inputs := rfl
@[simp] theorem State.modInputs_pos (f : Inputs → Inputs) (s : State) : (s.modInputs f).pos = s.pos := rfl
@[simp] theorem State.modInputs_scan (f : Inputs → Inputs) (s : State) : (s.modInputs f).scan = s.scan := rfl
@[simp] theorem State.modInputs_seg (f : Inputs → Inputs) (s : State) : (s.modInputs f).seg = s.seg := rfl
@[simp] theorem State.modInputs_tab (f : Inputs → Inputs) (s : State) : (s.modInputs f).tab = s.tab := rfl
@[simp] theorem State.modInputs_rcp (f : Inputs → Inputs) (s : State) : (s.modInputs f).rcp = s.rcp := rfl
@[simp] theorem State.modInputs_arb (f : Inputs → Inputs) (s : State) : (s.modInputs f).arb = s.arb := rfl
@[simp] theorem State.modInputs_mag (f : Inputs → Inputs) (s : State) : (s.modInputs f).mag = s.mag := rfl
@[simp] theorem State.modInputs_ecs (f : Inputs → Inputs) (s : State) : (s.modInputs f).ecs = s.ecs := rfl
@[simp] theorem State.modInputs_jet (f : Inputs → Inputs) (s : State) : (s.modInputs f).jet = s.jet := rfl
@[simp] theorem State.modInputs_lsig (f : Inputs → Inputs) (s : State) : (s.modInputs f).lsig = s.lsig := rfl
@[simp] theorem State.modInputs_slink (f : Inputs → Inputs) (s : State) : (s.modInputs f).slink = s.slink := rfl
@[simp] theorem State.modInputs_clink (f : Inputs → Inputs) (s : State) : (s.modInputs f).clink = s.clink := rfl
@[simp] theorem State.modInputs_draws (f : Inputs → Inputs) (s : State) : (s.modInputs f).draws = s.draws := rfl
@[simp] theorem State.modInputs_pending (f : Inputs → Inputs) (s : State) : (s.modInputs f).pending = s.pending := rfl

/-! ### State.modPos -/

@[simp] theorem State.modPos_inputs (f : Pos → Pos) (s : State) : (s.modPos f).inputs = s.inputs := rfl
@[simp] theorem State.modPos_pos (f : Pos → Pos) (s : State) : (s.modPos f).pos = f s.pos := rfl
@[simp] theorem State.modPos_scan (f : Pos → Pos) (s : State) : (s.modPos f).scan = s.scan := rfl
@[simp] theorem State.modPos_seg (f : Pos → Pos) (s : State) : (s.modPos f).seg = s.seg := rfl
@[simp] theorem State.modPos_tab (f : Pos → Pos) (s : State) : (s.modPos f).tab = s.tab := rfl
@[simp] theorem State.modPos_rcp (f : Pos → Pos) (s : State) : (s.modPos f).rcp = s.rcp := rfl
@[simp] theorem State.modPos_arb (f : Pos → Pos) (s : State) : (s.modPos f).arb = s.arb := rfl
@[simp] theorem State.modPos_mag (f : Pos → Pos) (s : State) : (s.modPos f).mag = s.mag := rfl
@[simp] theorem State.modPos_ecs (f : Pos → Pos) (s : State) : (s.modPos f).ecs = s.ecs := rfl
@[simp] theorem State.modPos_jet (f : Pos → Pos) (s : State) : (s.modPos f).jet = s.jet := rfl
@[simp] theorem State.modPos_lsig (f : Pos → Pos) (s : State) : (s.modPos f).lsig = s.lsig := rfl
@[simp] theorem State.modPos_slink (f : Pos → Pos) (s : State) : (s.modPos f).slink = s.slink := rfl
@[simp] theorem State.modPos_clink (f : Pos → Pos) (s : State) : (s.modPos f).clink = s.clink := rfl
@[simp] theorem State.modPos_draws (f : Pos → Pos) (s : State) : (s.modPos f).draws = s.draws := rfl
@[simp] theorem State.modPos_pending (f : Pos → Pos) (s : State) : (s.modPos f).pending = s.pending := rfl

/-! ### State.modScan -/

@[simp] theorem State.modScan_inputs (f : Scan → Scan) (s : State) : (s.modScan f).inputs = s.inputs := rfl
@[simp] theorem State.modScan_pos (f : Scan → Scan) (s : State) : (s.modScan f).pos = s.pos := rfl
@[simp] theorem State.modScan_scan (f : Scan → Scan) (s : State) : (s.modScan f).scan = f s.scan := rfl
@[simp] theorem State.modScan_seg (f : Scan → Scan) (s : State) : (s.modScan f).seg = s.seg := rfl
@[simp] theorem State.modScan_tab (f : Scan → Scan) (s : State) : (s.modScan f).tab = s.tab := rfl
@[simp] theorem State.modScan_rcp (f : Scan → Scan) (s : State) : (s.modScan f).rcp = s.rcp := rfl
@[simp] theorem State.modScan_arb (f : Scan → Scan) (s : State) : (s.modScan f).arb = s.arb := rfl
@[simp] theorem State.modScan_mag (f : Scan → Scan) (s : State) : (s.modScan f).mag = s.mag := rfl
@[simp] theorem State.modScan_ecs (f : Scan → Scan) (s : State) : (s.modScan f).ecs = s.ecs := rfl
@[simp] theorem State.modScan_jet (f : Scan → Scan) (s : State) : (s.modScan f).jet = s.jet := rfl
@[simp] theorem State.modScan_lsig (f : Scan → Scan) (s : State) : (s.modScan f).lsig = s.lsig := rfl
@[simp] theorem State.modScan_slink (f : Scan → Scan) (s : State) : (s.modScan f).slink = s.slink := rfl
@[simp] theorem State.modScan_clink (f : Scan → Scan) (s : State) : (s.modScan f).clink = s.clink := rfl
@[simp] theorem State.modScan_draws (f : Scan → Scan) (s : State) : (s.modScan f).draws = s.draws := rfl
@[simp] theorem State.modScan_pending (f : Scan → Scan) (s : State) : (s.modScan f).pending = s.pending := rfl

/-! ### State.modSeg -/

@[simp] theorem State.modSeg_inputs (f : Seg → Seg) (s : State) : (s.modSeg f).inputs = s.inputs := rfl
@[simp] theorem State.modSeg_pos (f : Seg → Seg) (s : State) : (s.modSeg f).pos = s.pos := rfl
@[simp] theorem State.modSeg_scan (f : Seg → Seg) (s : State) : (s.modSeg f).scan = s.scan := rfl
@[simp] theorem State.modSeg_seg (f : Seg → Seg) (s : State) : (s.modSeg f).seg = f s.seg := rfl
@[simp] theorem State.modSeg_tab (f : Seg → Seg) (s : State) : (s.modSeg f).tab = s.tab := rfl
@[simp] theorem State.modSeg_rcp (f : Seg → Seg) (s : State) : (s.modSeg f).rcp = s.rcp := rfl
@[simp] theorem State.modSeg_arb (f : Seg → Seg) (s : State) : (s.modSeg f).arb = s.arb := rfl
@[simp] theorem State.modSeg_mag (f : Seg → Seg) (s : State) : (s.modSeg f).mag = s.mag := rfl
@[simp] theorem State.modSeg_ecs (f : Seg → Seg) (s : State) : (s.modSeg f).ecs = s.ecs := rfl
@[simp] theorem State.modSeg_jet (f : Seg → Seg) (s : State) : (s.modSeg f).jet = s.jet := rfl
@[simp] theorem State.modSeg_lsig (f : Seg → Seg) (s : State) : (s.modSeg f).lsig = s.lsig := rfl
@[simp] theorem State.modSeg_slink (f : Seg → Seg) (s : State) : (s.modSeg f).slink = s.slink := rfl
@[simp] theorem State.modSeg_clink (f : Seg → Seg) (s : State) : (s.modSeg f).clink = s.clink := rfl
@[simp] theorem State.modSeg_draws (f : Seg → Seg) (s : State) : (s.modSeg f).draws = s.draws := rfl
@[simp] theorem State.modSeg_pending (f : Seg → Seg) (s : State) : (s.modSeg f).pending = s.pending := rfl

/-! ### State.modTab -/

@[simp] theorem State.modTab_inputs (f : Table → Table) (s : State) : (s.modTab f).inputs = s.inputs := rfl
@[simp] theorem State.modTab_pos (f : Table → Table) (s : State) : (s.modTab f).pos = s.pos := rfl
@[simp] theorem State.modTab_scan (f : Table → Table) (s : State) : (s.modTab f).scan = s.scan := rfl
@[simp] theorem State.modTab_seg (f : Table → Table) (s : State) : (s.modTab f).seg = s.seg := rfl
@[simp] theorem State.modTab_tab (f : Table → Table) (s : State) : (s.modTab f).tab = f s.tab := rfl
@[simp] theorem State.modTab_rcp (f : Table → Table) (s : State) : (s.modTab f).rcp = s.rcp := rfl
@[simp] theorem State.modTab_arb (f : Table → Table) (s : State) : (s.modTab f).arb = s.arb := rfl
@[simp] theorem State.modTab_mag (f : Table → Table) (s : State) : (s.modTab f).mag = s.mag := rfl
@[simp] theorem State.modTab_ecs (f : Table → Table) (s : State) : (s.modTab f).ecs = s.ecs := rfl
@[simp] theorem State.modTab_jet (f : Table → Table) (s : State) : (s.modTab f).jet = s.jet := rfl
@[simp] theorem State.modTab_lsig (f : Table → Table) (s : State) : (s.modTab f).lsig = s.lsig := rfl
@[simp] theorem State.modTab_slink (f : Table → Table) (s : State) : (s.modTab f).slink = s.slink := rfl
@[simp] theorem State.modTab_clink (f : Table → Table) (s : State) : (s.modTab f).clink = s.clink := rfl
@[simp] theorem State.modTab_draws (f : Table → Table) (s : State) : (s.modTab f).draws = s.draws := rfl
@[simp] theorem State.modTab_pending (f : Table → Table) (s : State) : (s.modTab f).pending = s.pending := rfl

/-! ### State.modRcp -/

@[simp] theorem State.modRcp_inputs (f : Rcp → Rcp) (s : State) : (s.modRcp f).inputs = s.inputs := rfl
@[simp] theorem State.modRcp_pos (f : Rcp → Rcp) (s : State) : (s.modRcp f).pos = s.pos := rfl
@[simp] theorem State.modRcp_scan (f : Rcp → Rcp) (s : State) : (s.modRcp f).scan = s.scan := rfl
@[simp] theorem State.modRcp_seg (f : Rcp → Rcp) (s : State) : (s.modRcp f).seg = s.seg := rfl
@[simp] theorem State.modRcp_tab (f : Rcp → Rcp) (s : State) : (s.modRcp f).tab = s.tab := rfl
@[simp] theorem State.modRcp_rcp (f : Rcp → Rcp) (s : State) : (s.modRcp f).rcp = f s.rcp := rfl
@[simp] theorem State.modRcp_arb (f : Rcp → Rcp) (s : State) : (s.modRcp f).arb = s.arb := rfl
@[simp] theorem State.modRcp_mag (f : Rcp → Rcp) (s : State) : (s.modRcp f).mag = s.mag := rfl
@[simp] theorem State.modRcp_ecs (f : Rcp → Rcp) (s : State) : (s.modRcp f).ecs = s.ecs := rfl
@[simp] theorem State.modRcp_jet (f : Rcp → Rcp) (s : State) : (s.modRcp f).jet = s.jet := rfl
@[simp] theorem State.modRcp_lsig (f : Rcp → Rcp) (s : State) : (s.modRcp f).lsig = s.lsig := rfl
@[simp] theorem State.modRcp_slink (f : Rcp → Rcp) (s : State) : (s.modRcp f).slink = s.slink := rfl
@[simp] theorem State.modRcp_clink (f : Rcp → Rcp) (s : State) : (s.modRcp f).clink = s.clink := rfl
@[simp] theorem State.modRcp_draws (f : Rcp → Rcp) (s : State) : (s.modRcp f).draws = s.draws := rfl
@[simp] theorem State.modRcp_pending (f : Rcp → Rcp) (s : State) : (s.modRcp f).pending = s.pending := rfl

/-! ### State.modArb -/

@[simp] theorem State.modArb_inputs (f : Arb → Arb) (s : State) : (s.modArb f).inputs = s.inputs := rfl
@[simp] theorem State.modArb_pos (f : Arb → Arb) (s : State) : (s.modArb f).pos = s.pos := rfl
@[simp] theorem State.modArb_scan (f : Arb → Arb) (s : State) : (s.modArb f).scan = s.scan := rfl
@[simp] theorem State.modArb_seg (f : Arb → Arb) (s : State) : (s.modArb f).seg = s.seg := rfl
@[simp] theorem State.modArb_tab (f : Arb → Arb) (s : State) : (s.modArb f).tab = s.tab := rfl
@[simp] theorem State.modArb_rcp (f : Arb → Arb) (s : State) : (s.modArb f).rcp = s.rcp := rfl
@[simp] theorem State.modArb_arb (f : Arb → Arb) (s : State) : (s.modArb f).arb = f s.arb := rfl
@[simp] theorem State.modArb_mag (f : Arb → Arb) (s : State) : (s.modArb f).mag = s.mag := rfl
@[simp] theorem State.modArb_ecs (f : Arb → Arb) (s : State) : (s.modArb f).ecs = s.ecs := rfl
@[simp] theorem State.modArb_jet (f : Arb → Arb) (s : State) : (s.modArb f).jet = s.jet := rfl
@[simp] theorem State.modArb_lsig (f : Arb → Arb) (s : State) : (s.modArb f).lsig = s.lsig := rfl
@[simp] theorem State.modArb_slink (f : Arb → Arb) (s : State) : (s.modArb f).slink = s.slink := rfl
@[simp] theorem State.modArb_clink (f : Arb → Arb) (s : State) : (s.modArb f).clink = s.clink := rfl
@[simp] theorem State.modArb_draws (f : Arb → Arb) (s : State) : (s.modArb f).draws = s.draws := rfl
@[simp] theorem State.modArb_pending (f : Arb → Arb) (s : State) : (s.modArb f).pending = s.pending := rfl

/-! ### State.modMag -/

@[simp] theorem State.modMag_inputs (f : Mag → Mag) (s : State) : (s.modMag f).inputs = s.inputs := rfl
@[simp] theorem State.modMag_pos (f : Mag → Mag) (s : State) : (s.modMag f).pos = s.pos := rfl
@[simp] theorem State.modMag_scan (f : Mag → Mag) (s : State) : (s.modMag f).scan = s.scan := rfl
@[simp] theorem State.modMag_seg (f : Mag → Mag) (s : State) : (s.modMag f).seg = s.seg := rfl
@[simp] theorem State.modMag_tab (f : Mag → Mag) (s : State) : (s.modMag f).tab = s.tab := rfl
@[simp] theorem State.modMag_rcp (f : Mag → Mag) (s : State) : (s.modMag f).rcp = s.rcp := rfl
@[simp] theorem State.modMag_arb (f : Mag → Mag) (s : State) : (s.modMag f).arb = s.arb := rfl
@[simp] theorem State.modMag_mag (f : Mag → Mag) (s : State) : (s.modMag f).mag = f s.mag := rfl
@[simp] theorem State.modMag_ecs (f : Mag → Mag) (s : State) : (s.modMag f).ecs = s.ecs := rfl
@[simp] theorem State.modMag_jet (f : Mag → Mag) (s : State) : (s.modMag f).jet = s.jet := rfl
@[simp] theorem State.modMag_lsig (f : Mag → Mag) (s : State) : (s.modMag f).lsig = s.lsig := rfl
@[simp] theorem State.modMag_slink (f : Mag → Mag) (s : State) : (s.modMag f).slink = s.slink := rfl
@[simp] theorem State.modMag_clink (f : Mag → Mag) (s : State) : (s.modMag f).clink = s.clink := rfl
@[simp] theorem State.modMag_draws (f : Mag → Mag) (s : State) : (s.modMag f).draws = s.draws := rfl
@[simp] theorem State.modMag_pending (f : Mag → Mag) (s : State) : (s.modMag f).pending = s.pending := rfl

/-! ### State.modEcs -/

@[simp] theorem State.modEcs_inputs (f : Ecs → Ecs) (s : State) : (s.modEcs f).inputs = s.inputs := rfl
@[simp] theorem State.modEcs_pos (f : Ecs → Ecs) (s : State) : (s.modEcs f).pos = s.pos := rfl
@[simp] theorem State.modEcs_scan (f : Ecs → Ecs) (s : State) : (s.modEcs f).scan = s.scan := rfl
@[simp] theorem State.modEcs_seg (f : Ecs → Ecs) (s : State) : (s.modEcs f).seg = s.seg := rfl
@[simp] theorem State.modEcs_tab (f : Ecs → Ecs) (s : State) : (s.modEcs f).tab = s.tab := rfl
@[simp] theorem State.modEcs_rcp (f : Ecs → Ecs) (s : State) : (s.modEcs f).rcp = s.rcp := rfl
@[simp] theorem State.modEcs_arb (f : Ecs → Ecs) (s : State) : (s.modEcs f).arb = s.arb := rfl
@[simp] theorem State.modEcs_mag (f : Ecs → Ecs) (s : State) : (s.modEcs f).mag = s.mag := rfl
@[simp] theorem State.modEcs_ecs (f : Ecs → Ecs) (s : State) : (s.modEcs f).ecs = f s.ecs := rfl
@[simp] theorem State.modEcs_jet (f : Ecs → Ecs) (s : State) : (s.modEcs f).jet = s.jet := rfl
@[simp] theorem State.modEcs_lsig (f : Ecs → Ecs) (s : State) : (s.modEcs f).lsig = s.lsig := rfl
@[simp] theorem State.modEcs_slink (f : Ecs → Ecs) (s : State) : (s.modEcs f).slink = s.slink := rfl
@[simp] theorem State.modEcs_clink (f : Ecs → Ecs) (s : State) : (s.modEcs f).clink = s.clink := rfl
@[simp] theorem State.modEcs_draws (f : Ecs → Ecs) (s : State) : (s.modEcs f).draws = s.draws := rfl
@[simp] theorem State.modEcs_pending (f : Ecs → Ecs) (s : State) : (s.modEcs f).pending = s.pending := rfl

/-! ### State.modJet -/

@[simp] theorem State.modJet_inputs (f : Jet → Jet) (s : State) : (s.modJet f).inputs = s.inputs := rfl
@[simp] theorem State.modJet_pos (f : Jet → Jet) (s : State) : (s.modJet f).pos = s.pos := rfl
@[simp] theorem State.modJet_scan (f : Jet → Jet) (s : State) : (s.modJet f).scan = s.scan := rfl
@[simp] theorem State.modJet_seg (f : Jet → Jet) (s : State) : (s.modJet f).seg = s.seg := rfl
@[simp] theorem State.modJet_tab (f : Jet → Jet) (s : State) : (s.modJet f).tab = s.tab := rfl
@[simp] theorem State.modJet_rcp (f : Jet → Jet) (s : State) : (s.modJet f).rcp = s.rcp := rfl
@[simp] theorem State.modJet_arb (f : Jet → Jet) (s : State) : (s.modJet f).arb = s.arb := rfl
@[simp] theorem State.modJet_mag (f : Jet → Jet) (s : State) : (s.modJet f).mag = s.mag := rfl
@[simp] theorem State.modJet_ecs (f : Jet → Jet) (s : State) : (s.modJet f).ecs = s.ecs := rfl
@[simp] theorem State.modJet_jet (f : Jet → Jet) (s : State) : (s.modJet f).jet = f s.jet := rfl
@[simp] theorem State.modJet_lsig (f : Jet → Jet) (s : State) : (s.modJet f).lsig = s.lsig := rfl
@[simp] theorem State.modJet_slink (f : Jet → Jet) (s : State) : (s.modJet f).slink = s.slink := rfl
@[simp] theorem State.modJet_clink (f : Jet → Jet) (s : State) : (s.modJet f).clink = s.clink := rfl
@[simp] theorem State.modJet_draws (f : Jet → Jet) (s : State) : (s.modJet f).draws = s.draws := rfl
@[simp] theorem State.modJet_pending (f : Jet → Jet) (s : State) : (s.modJet f).pending = s.pending := rfl

/-! ### State.modLsig -/

@[simp] theorem State.modLsig_inputs (f : Lsig → Lsig) (s : State) : (s.modLsig f).inputs = s.inputs := rfl
@[simp] theorem State.modLsig_pos (f : Lsig → Lsig) (s : State) : (s.modLsig f).pos = s.pos := rfl
@[simp] theorem State.modLsig_scan (f : Lsig → Lsig) (s : State) : (s.modLsig f).scan = s.scan := rfl
@[simp] theorem State.modLsig_seg (f : Lsig → Lsig) (s : State) : (s.modLsig f).seg = s.seg := rfl
@[simp] theorem State.modLsig_tab (f : Lsig → Lsig) (s : State) : (s.modLsig f).tab = s.tab := rfl
@[simp] theorem State.modLsig_rcp (f : Lsig → Lsig) (s : State) : (s.modLsig f).rcp = s.rcp := rfl
@[simp] theorem State.modLsig_arb (f : Lsig → Lsig) (s : State) : (s.modLsig f).arb = s.arb := rfl
@[simp] theorem State.modLsig_mag (f : Lsig → Lsig) (s : State) : (s.modLsig f).mag = s.mag := rfl
@[simp] theorem State.modLsig_ecs (f : Lsig → Lsig) (s : State) : (s.modLsig f).ecs = s.ecs := rfl
@[simp] theorem State.modLsig_jet (f : Lsig → Lsig) (s : State) : (s.modLsig f).jet = s.jet := rfl
@[simp] theorem State.modLsig_lsig (f : Lsig → Lsig) (s : State) : (s.modLsig f).lsig = f s.lsig := rfl
@[simp] theorem State.modLsig_slink (f : Lsig → Lsig) (s : State) : (s.modLsig f).slink = s.slink := rfl
@[simp] theorem State.modLsig_clink (f : Lsig → Lsig) (s : State) : (s.modLsig f).clink = s.clink := rfl
@[simp] theorem State.modLsig_draws (f : Lsig → Lsig) (s : State) : (s.modLsig f).draws = s.draws := rfl
@[simp] theorem State.modLsig_pending (f : Lsig → Lsig) (s : State) : (s.modLsig f).pending = s.pending := rfl

/-! ### State.modSlink -/

@[simp] theorem State.modSlink_inputs (f : LinkState → LinkState) (s : State) : (s.modSlink f).inputs = s.inputs := rfl
@[simp] theorem State.modSlink_pos (f : LinkState → LinkState) (s : State) : (s.modSlink f).pos = s.pos := rfl
@[simp] theorem State.modSlink_scan (f : LinkState → LinkState) (s : State) : (s.modSlink f).scan = s.scan := rfl
@[simp] theorem State.modSlink_seg (f : LinkState → LinkState) (s : State) : (s.modSlink f).seg = s.seg := rfl
@[simp] theorem State.modSlink_tab (f : LinkState → LinkState) (s : State) : (s.modSlink f).tab = s.tab := rfl
@[simp] theorem State.modSlink_rcp (f : LinkState → LinkState) (s : State) : (s.modSlink f).rcp = s.rcp := rfl
@[simp] theorem State.modSlink_arb (f : LinkState → LinkState) (s : State) : (s.modSlink f).arb = s.arb := rfl
@[simp] theorem State.modSlink_mag (f : LinkState → LinkState) (s : State) : (s.modSlink f).mag = s.mag := rfl
@[simp] theorem State.modSlink_ecs (f : LinkState → LinkState) (s : State) : (s.modSlink f).ecs = s.ecs := rfl
@[simp] theorem State.modSlink_jet (f : LinkState → LinkState) (s : State) : (s.modSlink f).jet = s.jet := rfl
@[simp] theorem State.modSlink_lsig (f : LinkState → LinkState) (s : State) : (s.modSlink f).lsig = s.lsig := rfl
@[simp] theorem State.modSlink_slink (f : LinkState → LinkState) (s : State) : (s.modSlink f).slink = f s.slink := rfl
@[simp] theorem State.modSlink_clink (f : LinkState → LinkState) (s : State) : (s.modSlink f).clink = s.clink := rfl
@[simp] theorem State.modSlink_draws (f : LinkState → LinkState) (s : State) : (s.modSlink f).draws = s.draws := rfl
@[simp] theorem State.modSlink_pending (f : LinkState → LinkState) (s : State) : (s.modSlink f).pending = s.pending := rfl

/-! ### State.modClink -/

@[simp] theorem State.modClink_inputs (f : LinkState → LinkState) (s : State) : (s.modClink f).inputs = s.inputs := rfl
@[simp] theorem State.modClink_pos (f : LinkState → LinkState) (s : State) : (s.modClink f).pos = s.pos := rfl
@[simp] theorem State.modClink_scan (f : LinkState → LinkState) (s : State) : (s.modClink f).scan = s.scan := rfl
@[simp] theorem State.modClink_seg (f : LinkState → LinkState) (s : State) : (s.modClink f).seg = s.seg := rfl
@[simp] theorem State.modClink_tab (f : LinkState → LinkState) (s : State) : (s.modClink f).tab = s.tab := rfl
@[simp] theorem State.modClink_rcp (f : LinkState → LinkState) (s : State) : (s.modClink f).rcp = s.rcp := rfl
@[simp] theorem State.modClink_arb (f : LinkState → LinkState) (s : State) : (s.modClink f).arb = s.arb := rfl
@[simp] theorem State.modClink_mag (f : LinkState → LinkState) (s : State) : (s.modClink f).mag = s.mag := rfl
@[simp] theorem State.modClink_ecs (f : LinkState → LinkState) (s : State) : (s.modClink f).ecs = s.ecs := rfl
@[simp] theorem State.modClink_jet (f : LinkState → LinkState) (s : State) : (s.modClink f).jet = s.jet := rfl
@[simp] theorem State.modClink_lsig (f : LinkState → LinkState) (s : State) : (s.modClink f).lsig = s.lsig := rfl
@[simp] theorem State.modClink_slink (f : LinkState → LinkState) (s : State) : (s.modClink f).slink = s.slink := rfl
@[simp] theorem State.modClink_clink (f : LinkState → LinkState) (s : State) : (s.modClink f).clink = f s.clink := rfl
@[simp] theorem State.modClink_draws (f : LinkState → LinkState) (s : State) : (s.modClink f).draws = s.draws := rfl
@[simp] theorem State.modClink_pending (f : LinkState → LinkState) (s : State) : (s.modClink f).pending = s.pending := rfl

/-! ### State.modTotals -/

@[simp] theorem State.modTotals_inputs (f : Totals → Totals) (s : State) : (s.modTotals f).inputs = s.inputs := rfl
@[simp] theorem State.modTotals_pos (f : Totals → Totals) (s : State) : (s.modTotals f).pos = s.pos := rfl
@[simp] theorem State.modTotals_scan (f : Totals → Totals) (s : State) : (s.modTotals f).scan = s.scan := rfl
@[simp] theorem State.modTotals_seg (f : Totals → Totals) (s : State) : (s.modTotals f).seg = s.seg := rfl
@[simp] theorem State.modTotals_rcp (f : Totals → Totals) (s : State) : (s.modTotals f).rcp = s.rcp := rfl
@[simp] theorem State.modTotals_arb (f : Totals → Totals) (s : State) : (s.modTotals f).arb = s.arb := rfl
@[simp] theorem State.modTotals_mag (f : Totals → Totals) (s : State) : (s.modTotals f).mag = s.mag := rfl
@[simp] theorem State.modTotals_ecs (f : Totals → Totals) (s : State) : (s.modTotals f).ecs = s.ecs := rfl
@[simp] theorem State.modTotals_jet (f : Totals → Totals) (s : State) : (s.modTotals f).jet = s.jet := rfl
@[simp] theorem State.modTotals_lsig (f : Totals → Totals) (s : State) : (s.modTotals f).lsig = s.lsig := rfl
@[simp] theorem State.modTotals_slink (f : Totals → Totals) (s : State) : (s.modTotals f).slink = s.slink := rfl
@[simp] theorem State.modTotals_clink (f : Totals → Totals) (s : State) : (s.modTotals f).clink = s.clink := rfl
@[simp] theorem State.modTotals_draws (f : Totals → Totals) (s : State) : (s.modTotals f).draws = s.draws := rfl
@[simp] theorem State.modTotals_pending (f : Totals → Totals) (s : State) : (s.modTotals f).pending = s.pending := rfl

/-! ### State.modLine -/

@[simp] theorem State.modLine_inputs (f : Line → Line) (s : State) : (s.modLine f).inputs = s.inputs := rfl
@[simp] theorem State.modLine_pos (f : Line → Line) (s : State) : (s.modLine f).pos = s.pos := rfl
@[simp] theorem State.modLine_scan (f : Line → Line) (s : State) : (s.modLine f).scan = s.scan := rfl
@[simp] theorem State.modLine_seg (f : Line → Line) (s : State) : (s.modLine f).seg = s.seg := rfl
@[simp] theorem State.modLine_tab (f : Line → Line) (s : State) : (s.modLine f).tab = s.tab := rfl
@[simp] theorem State.modLine_arb (f : Line → Line) (s : State) : (s.modLine f).arb = s.arb := rfl
@[simp] theorem State.modLine_mag (f : Line → Line) (s : State) : (s.modLine f).mag = s.mag := rfl
@[simp] theorem State.modLine_ecs (f : Line → Line) (s : State) : (s.modLine f).ecs = s.ecs := rfl
@[simp] theorem State.modLine_jet (f : Line → Line) (s : State) : (s.modLine f).jet = s.jet := rfl
@[simp] theorem State.modLine_lsig (f : Line → Line) (s : State) : (s.modLine f).lsig = s.lsig := rfl
@[simp] theorem State.modLine_slink (f : Line → Line) (s : State) : (s.modLine f).slink = s.slink := rfl
@[simp] theorem State.modLine_clink (f : Line → Line) (s : State) : (s.modLine f).clink = s.clink := rfl
@[simp] theorem State.modLine_draws (f : Line → Line) (s : State) : (s.modLine f).draws = s.draws := rfl
@[simp] theorem State.modLine_pending (f : Line → Line) (s : State) : (s.modLine f).pending = s.pending := rfl

/-! ### State.modRecord -/

@[simp] theorem State.modRecord_inputs (tag : Nat) (f : Record → Record) (s : State) : (s.modRecord tag f).inputs = s.inputs := rfl
@[simp] theorem State.modRecord_pos (tag : Nat) (f : Record → Record) (s : State) : (s.modRecord tag f).pos = s.pos := rfl
@[simp] theorem State.modRecord_scan (tag : Nat) (f : Record → Record) (s : State) : (s.modRecord tag f).scan = s.scan := rfl
@[simp] theorem State.modRecord_seg (tag : Nat) (f : Record → Record) (s : State) : (s.modRecord tag f).seg = s.seg := rfl
@[simp] theorem State.modRecord_rcp (tag : Nat) (f : Record → Record) (s : State) : (s.modRecord tag f).rcp = s.rcp := rfl
@[simp] theorem State.modRecord_arb (tag : Nat) (f : Record → Record) (s : State) : (s.modRecord tag f).arb = s.arb := rfl
@[simp] theorem State.modRecord_mag (tag : Nat) (f : Record → Record) (s : State) : (s.modRecord tag f).mag = s.mag := rfl
@[simp] theorem State.modRecord_ecs (tag : Nat) (f : Record → Record) (s : State) : (s.modRecord tag f).ecs = s.ecs := rfl
@[simp] theorem State.modRecord_jet (tag : Nat) (f : Record → Record) (s : State) : (s.modRecord tag f).jet = s.jet := rfl
@[simp] theorem State.modRecord_lsig (tag : Nat) (f : Record → Record) (s : State) : (s.modRecord tag f).lsig = s.lsig := rfl
@[simp] theorem State.modRecord_slink (tag : Nat) (f : Record → Record) (s : State) : (s.modRecord tag f).slink = s.slink := rfl
@[simp] theorem State.modRecord_clink (tag : Nat) (f : Record → Record) (s : State) : (s.modRecord tag f).clink = s.clink := rfl
@[simp] theorem State.modRecord_draws (tag : Nat) (f : Record → Record) (s : State) : (s.modRecord tag f).draws = s.draws := rfl
@[simp] theorem State.modRecord_pending (tag : Nat) (f : Record → Record) (s : State) : (s.modRecord tag f).pending = s.pending := rfl

/-! ### State.modStation -/

@[simp] theorem State.modStation_inputs (st : Station) (f : StationInfo → StationInfo) (s : State) : (s.modStation st f).inputs = s.inputs := rfl
@[simp] theorem State.modStation_pos (st : Station) (f : StationInfo → StationInfo) (s : State) : (s.modStation st f).pos = s.pos := rfl
@[simp] theorem State.modStation_scan (st : Station) (f : StationInfo → StationInfo) (s : State) : (s.modStation st f).scan = s.scan := rfl
@[simp] theorem State.modStation_seg (st : Station) (f : StationInfo → StationInfo) (s : State) : (s.modStation st f).seg = s.seg := rfl
@[simp] theorem State.modStation_tab (st : Station) (f : StationInfo → StationInfo) (s : State) : (s.modStation st f).tab = s.tab := rfl
@[simp] theorem State.modStation_rcp (st : Station) (f : StationInfo → StationInfo) (s : State) : (s.modStation st f).rcp = s.rcp := rfl
@[simp] theorem State.modStation_arb (st : Station) (f : StationInfo → StationInfo) (s : State) : (s.modStation st f).arb = s.arb := rfl
@[simp] theorem State.modStation_mag (st : Station) (f : StationInfo → StationInfo) (s : State) : (s.modStation st f).mag = s.mag := rfl
@[simp] theorem State.modStation_ecs (st : Station) (f : StationInfo → StationInfo) (s : State) : (s.modStation st f).ecs = s.ecs := rfl
@[simp] theorem State.modStation_jet (st : Station) (f : StationInfo → StationInfo) (s : State) : (s.modStation st f).jet = s.jet := rfl
@[simp] theorem State.modStation_slink (st : Station) (f : StationInfo → StationInfo) (s : State) : (s.modStation st f).slink = s.slink := rfl
@[simp] theorem State.modStation_clink (st : Station) (f : StationInfo → StationInfo) (s : State) : (s.modStation st f).clink = s.clink := rfl
@[simp] theorem State.modStation_draws (st : Station) (f : StationInfo → StationInfo) (s : State) : (s.modStation st f).draws = s.draws := rfl
@[simp] theorem State.modStation_pending (st : Station) (f : StationInfo → StationInfo) (s : State) : (s.modStation st f).pending = s.pending := rfl

/-! ### State.modSlot -/

@[simp] theorem State.modSlot_inputs (k : Fin 3) (f : Slot → Slot) (s : State) : (s.modSlot k f).inputs = s.inputs := rfl
@[simp] theorem State.modSlot_pos (k : Fin 3) (f : Slot → Slot) (s : State) : (s.modSlot k f).pos = s.pos := rfl
@[simp] theorem State.modSlot_scan (k : Fin 3) (f : Slot → Slot) (s : State) : (s.modSlot k f).scan = s.scan := rfl
@[simp] theorem State.modSlot_seg (k : Fin 3) (f : Slot → Slot) (s : State) : (s.modSlot k f).seg = s.seg := rfl
@[simp] theorem State.modSlot_tab (k : Fin 3) (f : Slot → Slot) (s : State) : (s.modSlot k f).tab = s.tab := rfl
@[simp] theorem State.modSlot_arb (k : Fin 3) (f : Slot → Slot) (s : State) : (s.modSlot k f).arb = s.arb := rfl
@[simp] theorem State.modSlot_mag (k : Fin 3) (f : Slot → Slot) (s : State) : (s.modSlot k f).mag = s.mag := rfl
@[simp] theorem State.modSlot_ecs (k : Fin 3) (f : Slot → Slot) (s : State) : (s.modSlot k f).ecs = s.ecs := rfl
@[simp] theorem State.modSlot_jet (k : Fin 3) (f : Slot → Slot) (s : State) : (s.modSlot k f).jet = s.jet := rfl
@[simp] theorem State.modSlot_lsig (k : Fin 3) (f : Slot → Slot) (s : State) : (s.modSlot k f).lsig = s.lsig := rfl
@[simp] theorem State.modSlot_slink (k : Fin 3) (f : Slot → Slot) (s : State) : (s.modSlot k f).slink = s.slink := rfl
@[simp] theorem State.modSlot_clink (k : Fin 3) (f : Slot → Slot) (s : State) : (s.modSlot k f).clink = s.clink := rfl
@[simp] theorem State.modSlot_draws (k : Fin 3) (f : Slot → Slot) (s : State) : (s.modSlot k f).draws = s.draws := rfl
@[simp] theorem State.modSlot_pending (k : Fin 3) (f : Slot → Slot) (s : State) : (s.modSlot k f).pending = s.pending := rfl

/-! ### State.modSegments -/

@[simp] theorem State.modSegments_inputs (f : Nat → Segment → Segment) (s : State) : (s.modSegments f).inputs = s.inputs := rfl
@[simp] theorem State.modSegments_pos (f : Nat → Segment → Segment) (s : State) : (s.modSegments f).pos = s.pos := rfl
@[simp] theorem State.modSegments_scan (f : Nat → Segment → Segment) (s : State) : (s.modSegments f).scan = s.scan := rfl
@[simp] theorem State.modSegments_seg (f : Nat → Segment → Segment) (s : State) : (s.modSegments f).seg = s.seg := rfl
@[simp] theorem State.modSegments_tab (f : Nat → Segment → Segment) (s : State) : (s.modSegments f).tab = s.tab := rfl
@[simp] theorem State.modSegments_rcp (f : Nat → Segment → Segment) (s : State) : (s.modSegments f).rcp = s.rcp := rfl
@[simp] theorem State.modSegments_arb (f : Nat → Segment → Segment) (s : State) : (s.modSegments f).arb = s.arb := rfl
@[simp] theorem State.modSegments_ecs (f : Nat → Segment → Segment) (s : State) : (s.modSegments f).ecs = s.ecs := rfl
@[simp] theorem State.modSegments_jet (f : Nat → Segment → Segment) (s : State) : (s.modSegments f).jet = s.jet := rfl
@[simp] theorem State.modSegments_lsig (f : Nat → Segment → Segment) (s : State) : (s.modSegments f).lsig = s.lsig := rfl
@[simp] theorem State.modSegments_slink (f : Nat → Segment → Segment) (s : State) : (s.modSegments f).slink = s.slink := rfl
@[simp] theorem State.modSegments_clink (f : Nat → Segment → Segment) (s : State) : (s.modSegments f).clink = s.clink := rfl
@[simp] theorem State.modSegments_draws (f : Nat → Segment → Segment) (s : State) : (s.modSegments f).draws = s.draws := rfl
@[simp] theorem State.modSegments_pending (f : Nat → Segment → Segment) (s : State) : (s.modSegments f).pending = s.pending := rfl

/-! ### State.modFlaps -/

@[simp] theorem State.modFlaps_inputs (f : Nat → Flap → Flap) (s : State) : (s.modFlaps f).inputs = s.inputs := rfl
@[simp] theorem State.modFlaps_pos (f : Nat → Flap → Flap) (s : State) : (s.modFlaps f).pos = s.pos := rfl
@[simp] theorem State.modFlaps_scan (f : Nat → Flap → Flap) (s : State) : (s.modFlaps f).scan = s.scan := rfl
@[simp] theorem State.modFlaps_seg (f : Nat → Flap → Flap) (s : State) : (s.modFlaps f).seg = s.seg := rfl
@[simp] theorem State.modFlaps_tab (f : Nat → Flap → Flap) (s : State) : (s.modFlaps f).tab = s.tab := rfl
@[simp] theorem State.modFlaps_rcp (f : Nat → Flap → Flap) (s : State) : (s.modFlaps f).rcp = s.rcp := rfl
@[simp] theorem State.modFlaps_arb (f : Nat → Flap → Flap) (s : State) : (s.modFlaps f).arb = s.arb := rfl
@[simp] theorem State.modFlaps_mag (f : Nat → Flap → Flap) (s : State) : (s.modFlaps f).mag = s.mag := rfl
@[simp] theorem State.modFlaps_jet (f : Nat → Flap → Flap) (s : State) : (s.modFlaps f).jet = s.jet := rfl
@[simp] theorem State.modFlaps_lsig (f : Nat → Flap → Flap) (s : State) : (s.modFlaps f).lsig = s.lsig := rfl
@[simp] theorem State.modFlaps_slink (f : Nat → Flap → Flap) (s : State) : (s.modFlaps f).slink = s.slink := rfl
@[simp] theorem State.modFlaps_clink (f : Nat → Flap → Flap) (s : State) : (s.modFlaps f).clink = s.clink := rfl
@[simp] theorem State.modFlaps_draws (f : Nat → Flap → Flap) (s : State) : (s.modFlaps f).draws = s.draws := rfl
@[simp] theorem State.modFlaps_pending (f : Nat → Flap → Flap) (s : State) : (s.modFlaps f).pending = s.pending := rfl

/-! ### State.modPulses -/

@[simp] theorem State.modPulses_inputs (f : Nat → List Pulse → List Pulse) (s : State) : (s.modPulses f).inputs = s.inputs := rfl
@[simp] theorem State.modPulses_pos (f : Nat → List Pulse → List Pulse) (s : State) : (s.modPulses f).pos = s.pos := rfl
@[simp] theorem State.modPulses_scan (f : Nat → List Pulse → List Pulse) (s : State) : (s.modPulses f).scan = s.scan := rfl
@[simp] theorem State.modPulses_seg (f : Nat → List Pulse → List Pulse) (s : State) : (s.modPulses f).seg = s.seg := rfl
@[simp] theorem State.modPulses_tab (f : Nat → List Pulse → List Pulse) (s : State) : (s.modPulses f).tab = s.tab := rfl
@[simp] theorem State.modPulses_rcp (f : Nat → List Pulse → List Pulse) (s : State) : (s.modPulses f).rcp = s.rcp := rfl
@[simp] theorem State.modPulses_arb (f : Nat → List Pulse → List Pulse) (s : State) : (s.modPulses f).arb = s.arb := rfl
@[simp] theorem State.modPulses_mag (f : Nat → List Pulse → List Pulse) (s : State) : (s.modPulses f).mag = s.mag := rfl
@[simp] theorem State.modPulses_ecs (f : Nat → List Pulse → List Pulse) (s : State) : (s.modPulses f).ecs = s.ecs := rfl
@[simp] theorem State.modPulses_lsig (f : Nat → List Pulse → List Pulse) (s : State) : (s.modPulses f).lsig = s.lsig := rfl
@[simp] theorem State.modPulses_slink (f : Nat → List Pulse → List Pulse) (s : State) : (s.modPulses f).slink = s.slink := rfl
@[simp] theorem State.modPulses_clink (f : Nat → List Pulse → List Pulse) (s : State) : (s.modPulses f).clink = s.clink := rfl
@[simp] theorem State.modPulses_draws (f : Nat → List Pulse → List Pulse) (s : State) : (s.modPulses f).draws = s.draws := rfl
@[simp] theorem State.modPulses_pending (f : Nat → List Pulse → List Pulse) (s : State) : (s.modPulses f).pending = s.pending := rfl

/-! ### State.latch -/

@[simp] theorem State.latch_inputs (a : Alert) (s : State) : (s.latch a).inputs = s.inputs := rfl
@[simp] theorem State.latch_pos (a : Alert) (s : State) : (s.latch a).pos = s.pos := rfl
@[simp] theorem State.latch_scan (a : Alert) (s : State) : (s.latch a).scan = s.scan := rfl
@[simp] theorem State.latch_seg (a : Alert) (s : State) : (s.latch a).seg = s.seg := rfl
@[simp] theorem State.latch_tab (a : Alert) (s : State) : (s.latch a).tab = s.tab := rfl
@[simp] theorem State.latch_rcp (a : Alert) (s : State) : (s.latch a).rcp = s.rcp := rfl
@[simp] theorem State.latch_arb (a : Alert) (s : State) : (s.latch a).arb = s.arb := rfl
@[simp] theorem State.latch_mag (a : Alert) (s : State) : (s.latch a).mag = s.mag := rfl
@[simp] theorem State.latch_ecs (a : Alert) (s : State) : (s.latch a).ecs = s.ecs := rfl
@[simp] theorem State.latch_jet (a : Alert) (s : State) : (s.latch a).jet = s.jet := rfl
@[simp] theorem State.latch_slink (a : Alert) (s : State) : (s.latch a).slink = s.slink := rfl
@[simp] theorem State.latch_clink (a : Alert) (s : State) : (s.latch a).clink = s.clink := rfl
@[simp] theorem State.latch_draws (a : Alert) (s : State) : (s.latch a).draws = s.draws := rfl
@[simp] theorem State.latch_pending (a : Alert) (s : State) : (s.latch a).pending = s.pending := rfl

/-! ### State.latchLink -/

@[simp] theorem State.latchLink_inputs (c : Cause) (l : Link) (s : State) : (s.latchLink c l).inputs = s.inputs := rfl
@[simp] theorem State.latchLink_pos (c : Cause) (l : Link) (s : State) : (s.latchLink c l).pos = s.pos := rfl
@[simp] theorem State.latchLink_scan (c : Cause) (l : Link) (s : State) : (s.latchLink c l).scan = s.scan := rfl
@[simp] theorem State.latchLink_seg (c : Cause) (l : Link) (s : State) : (s.latchLink c l).seg = s.seg := rfl
@[simp] theorem State.latchLink_tab (c : Cause) (l : Link) (s : State) : (s.latchLink c l).tab = s.tab := rfl
@[simp] theorem State.latchLink_rcp (c : Cause) (l : Link) (s : State) : (s.latchLink c l).rcp = s.rcp := rfl
@[simp] theorem State.latchLink_arb (c : Cause) (l : Link) (s : State) : (s.latchLink c l).arb = s.arb := rfl
@[simp] theorem State.latchLink_mag (c : Cause) (l : Link) (s : State) : (s.latchLink c l).mag = s.mag := rfl
@[simp] theorem State.latchLink_ecs (c : Cause) (l : Link) (s : State) : (s.latchLink c l).ecs = s.ecs := rfl
@[simp] theorem State.latchLink_jet (c : Cause) (l : Link) (s : State) : (s.latchLink c l).jet = s.jet := rfl
@[simp] theorem State.latchLink_slink (c : Cause) (l : Link) (s : State) : (s.latchLink c l).slink = s.slink := rfl
@[simp] theorem State.latchLink_clink (c : Cause) (l : Link) (s : State) : (s.latchLink c l).clink = s.clink := rfl
@[simp] theorem State.latchLink_draws (c : Cause) (l : Link) (s : State) : (s.latchLink c l).draws = s.draws := rfl
@[simp] theorem State.latchLink_pending (c : Cause) (l : Link) (s : State) : (s.latchLink c l).pending = s.pending := rfl

/-! ### What the derived updates write -/

@[simp] theorem State.modTotals_totals (f : Totals → Totals) (s : State) : (s.modTotals f).tab.totals = f s.tab.totals := rfl
@[simp] theorem State.modTotals_records (f : Totals → Totals) (s : State) : (s.modTotals f).tab.records = s.tab.records := rfl
@[simp] theorem State.modTotals_queue (f : Totals → Totals) (s : State) : (s.modTotals f).tab.queue = s.tab.queue := rfl
@[simp] theorem State.modTotals_tagCounter (f : Totals → Totals) (s : State) :
    (s.modTotals f).tab.tagCounter = s.tab.tagCounter := rfl
@[simp] theorem State.modRecord_totals (tag : Nat) (f : Record → Record) (s : State) :
    (s.modRecord tag f).tab.totals = s.tab.totals := rfl
@[simp] theorem State.modRecord_records (tag : Nat) (f : Record → Record) (s : State) :
    (s.modRecord tag f).tab.records = s.tab.records.map fun r => if r.tag == tag then f r else r := rfl
@[simp] theorem State.modRecord_queue (tag : Nat) (f : Record → Record) (s : State) :
    (s.modRecord tag f).tab.queue = s.tab.queue := rfl
@[simp] theorem State.modRecord_tagCounter (tag : Nat) (f : Record → Record) (s : State) :
    (s.modRecord tag f).tab.tagCounter = s.tab.tagCounter := rfl
@[simp] theorem State.modLine_line (f : Line → Line) (s : State) : (s.modLine f).rcp.line = f s.rcp.line := rfl
@[simp] theorem State.modLine_slots (f : Line → Line) (s : State) : (s.modLine f).rcp.slots = s.rcp.slots := rfl
@[simp] theorem State.modLine_psw (f : Line → Line) (s : State) : (s.modLine f).rcp.psw = s.rcp.psw := rfl
@[simp] theorem State.modSlot_line (k : Fin 3) (f : Slot → Slot) (s : State) : (s.modSlot k f).rcp.line = s.rcp.line := rfl
@[simp] theorem State.modSlot_slots (k : Fin 3) (f : Slot → Slot) (s : State) :
    (s.modSlot k f).rcp.slots = s.rcp.slots.set k (f s.rcp.slots[k]) := rfl
@[simp] theorem State.modSlot_psw (k : Fin 3) (f : Slot → Slot) (s : State) : (s.modSlot k f).rcp.psw = s.rcp.psw := rfl
@[simp] theorem State.modStation_stations (st : Station) (f : StationInfo → StationInfo) (s : State) :
    (s.modStation st f).lsig.stations = s.lsig.stations.set st (f (s.lsig.stations.get st)) := rfl
@[simp] theorem State.modStation_estop (st : Station) (f : StationInfo → StationInfo) (s : State) :
    (s.modStation st f).lsig.estop = s.lsig.estop := rfl
@[simp] theorem State.modStation_estopFilter (st : Station) (f : StationInfo → StationInfo) (s : State) :
    (s.modStation st f).lsig.estopFilter = s.lsig.estopFilter := rfl
@[simp] theorem State.modStation_alerts (st : Station) (f : StationInfo → StationInfo) (s : State) :
    (s.modStation st f).lsig.alerts = s.lsig.alerts := rfl
@[simp] theorem State.modStation_linkCause (st : Station) (f : StationInfo → StationInfo) (s : State) :
    (s.modStation st f).lsig.linkCause = s.lsig.linkCause := rfl
@[simp] theorem State.modStation_switchMark (st : Station) (f : StationInfo → StationInfo) (s : State) :
    (s.modStation st f).lsig.switchMark = s.lsig.switchMark := rfl
@[simp] theorem State.latch_alerts (a : Alert) (s : State) : (s.latch a).lsig.alerts = s.lsig.alerts ||| a.bit := rfl
@[simp] theorem State.latch_stations (a : Alert) (s : State) : (s.latch a).lsig.stations = s.lsig.stations := rfl
@[simp] theorem State.latch_estop (a : Alert) (s : State) : (s.latch a).lsig.estop = s.lsig.estop := rfl
@[simp] theorem State.latch_estopFilter (a : Alert) (s : State) : (s.latch a).lsig.estopFilter = s.lsig.estopFilter := rfl
@[simp] theorem State.latch_linkCause (a : Alert) (s : State) : (s.latch a).lsig.linkCause = s.lsig.linkCause := rfl
@[simp] theorem State.latch_switchMark (a : Alert) (s : State) : (s.latch a).lsig.switchMark = s.lsig.switchMark := rfl
@[simp] theorem State.modSegments_segments (f : Nat → Segment → Segment) (s : State) :
    (s.modSegments f).mag.segments = s.mag.segments.mapIdx f := rfl
@[simp] theorem State.modFlaps_flaps (f : Nat → Flap → Flap) (s : State) :
    (s.modFlaps f).ecs.flaps = s.ecs.flaps.mapIdx f := rfl
@[simp] theorem State.modPulses_pulses (f : Nat → List Pulse → List Pulse) (s : State) :
    (s.modPulses f).jet.pulses = s.jet.pulses.mapIdx f := rfl

/-! ### One thing for each station -/

@[simp] theorem ByStation.get_set_same {α : Type} (b : ByStation α) (st : Station) (x : α) : (b.set st x).get st = x := by
  cases st <;> rfl

theorem ByStation.get_set_other {α : Type} (b : ByStation α) (st su : Station) (x : α) (h : su ≠ st) :
    (b.set st x).get su = b.get su := by
  cases st <;> cases su <;> first | rfl | exact absurd rfl h

@[simp] theorem State.modStation_avail_same (st : Station) (f : StationInfo → StationInfo) (s : State) :
    (s.modStation st f).avail st = (f (s.lsig.stations.get st)).avail := by
  simp [State.avail]

theorem State.modStation_avail_other (st su : Station) (f : StationInfo → StationInfo) (s : State) (h : su ≠ st) :
    (s.modStation st f).avail su = s.avail su := by
  simp [State.avail, ByStation.get_set_other _ _ _ _ h]

/-! ### State.modLink -/

@[simp] theorem State.modLink_inputs (l : Link) (f : LinkState → LinkState) (s : State) : (s.modLink l f).inputs = s.inputs := by cases l <;> rfl
@[simp] theorem State.modLink_pos (l : Link) (f : LinkState → LinkState) (s : State) : (s.modLink l f).pos = s.pos := by cases l <;> rfl
@[simp] theorem State.modLink_scan (l : Link) (f : LinkState → LinkState) (s : State) : (s.modLink l f).scan = s.scan := by cases l <;> rfl
@[simp] theorem State.modLink_seg (l : Link) (f : LinkState → LinkState) (s : State) : (s.modLink l f).seg = s.seg := by cases l <;> rfl
@[simp] theorem State.modLink_tab (l : Link) (f : LinkState → LinkState) (s : State) : (s.modLink l f).tab = s.tab := by cases l <;> rfl
@[simp] theorem State.modLink_rcp (l : Link) (f : LinkState → LinkState) (s : State) : (s.modLink l f).rcp = s.rcp := by cases l <;> rfl
@[simp] theorem State.modLink_arb (l : Link) (f : LinkState → LinkState) (s : State) : (s.modLink l f).arb = s.arb := by cases l <;> rfl
@[simp] theorem State.modLink_mag (l : Link) (f : LinkState → LinkState) (s : State) : (s.modLink l f).mag = s.mag := by cases l <;> rfl
@[simp] theorem State.modLink_ecs (l : Link) (f : LinkState → LinkState) (s : State) : (s.modLink l f).ecs = s.ecs := by cases l <;> rfl
@[simp] theorem State.modLink_jet (l : Link) (f : LinkState → LinkState) (s : State) : (s.modLink l f).jet = s.jet := by cases l <;> rfl
@[simp] theorem State.modLink_lsig (l : Link) (f : LinkState → LinkState) (s : State) : (s.modLink l f).lsig = s.lsig := by cases l <;> rfl
@[simp] theorem State.modLink_draws (l : Link) (f : LinkState → LinkState) (s : State) : (s.modLink l f).draws = s.draws := by cases l <;> rfl
@[simp] theorem State.modLink_pending (l : Link) (f : LinkState → LinkState) (s : State) : (s.modLink l f).pending = s.pending := by cases l <;> rfl

@[simp] theorem State.modLink_same (l : Link) (f : LinkState → LinkState) (s : State) : (s.modLink l f).link l = f (s.link l) := by
  cases l <;> rfl

theorem State.modLink_other (l k : Link) (f : LinkState → LinkState) (s : State) (h : k ≠ l) : (s.modLink l f).link k = s.link k := by
  cases l <;> cases k <;> first | rfl | exact absurd rfl h

@[simp] theorem State.modLink_modLink (l : Link) (f g : LinkState → LinkState) (s : State) :
    (s.modLink l f).modLink l g = s.modLink l (fun k => g (f k)) := by
  cases l <;> rfl

/-! ### A record found by its tag -/

/-- A record that is found is live and carries the tag. -/
theorem State.find_some {s : State} {tag : Nat} {r : Record} (h : s.find tag = some r) : r ∈ s.tab.records ∧ r.tag = tag :=
  ⟨List.mem_of_find?_eq_some h, by simpa using List.find?_some h⟩

/-- No record is found just where no live record carries the tag. -/
theorem State.find_none {s : State} {tag : Nat} : s.find tag = none ↔ ∀ r ∈ s.tab.records, r.tag ≠ tag := by
  simp [State.find]

end Sys2Proof.Machine
end

