-- ==== Sys2Proof/Laws/Frames.lean ====
section
/-! SUPPORT. The frame of every shared operation: one lemma for each that names the blocks it may reach, so that no later proof unfolds
the operation to say what it leaves alone. -/

namespace Sys2Proof.Machine

/-! ### Frames -/

theorem Block.Same.refl (b : Block) (s : State) : b.Same s s := by
  cases b <;> first | exact rfl | exact ⟨rfl, rfl⟩

theorem Block.Same.trans {b : Block} {s t u : State} (h : b.Same s t) (g : b.Same t u) : b.Same s u := by
  cases b <;> first | exact Eq.trans g h | exact ⟨g.1.trans h.1, g.2.trans h.2⟩

theorem Within.refl (bs : List Block) (s : State) : Within bs s s := fun b _ => Block.Same.refl b s

theorem Within.trans {bs : List Block} {s t u : State} (h : Within bs s t) (g : Within bs t u) : Within bs s u :=
  fun b hb => (h b hb).trans (g b hb)

theorem Within.mono {as bs : List Block} {s t : State} (h : Within as s t) (hs : ∀ b ∈ as, b ∈ bs) : Within bs s t :=
  fun b hb => h b fun ha => hb (hs b ha)

/-- Two frames, one after the other, within a frame that holds both. -/
theorem Within.seq {as bs cs : List Block} {s t u : State} (h : Within as s t) (g : Within bs t u)
    (ha : ∀ b ∈ as, b ∈ cs) (hb : ∀ b ∈ bs, b ∈ cs) : Within cs s u :=
  (h.mono ha).trans (g.mono hb)

/-- The frame of the last operation of several, within the frame of them all. -/
theorem Within.after {as bs : List Block} {s t u : State} (g : Within as t u) (hs : ∀ b ∈ as, b ∈ bs) (h : Within bs s t) :
    Within bs s u :=
  h.trans (g.mono hs)

/-- A choice between two states keeps a frame that both keep. -/
theorem Within.ite {bs : List Block} {s t u : State} {c : Prop} [Decidable c] (h : Within bs s t) (g : Within bs s u) :
    Within bs s (if c then t else u) := by
  split
  · exact h
  · exact g

theorem foldl_within {α : Type} {bs : List Block} (f : State → α → State) (h : ∀ s x, Within bs s (f s x)) (xs : List α) :
    ∀ s, Within bs s (xs.foldl f s) := by
  induction xs with
  | nil => exact Within.refl bs
  | cons x xs ih => exact fun s => (h s x).trans (ih (f s x))

/-! ### Updates of one block -/

section Blocks
variable (s : State)

theorem modInputs_within (f : Inputs → Inputs) : Within [.inputs] s (s.modInputs f) := by
  intro b hb; cases b <;> first | exact rfl | exact ⟨rfl, rfl⟩ | exact absurd (by decide) hb
theorem modPos_within (f : Pos → Pos) : Within [.pos] s (s.modPos f) := by
  intro b hb; cases b <;> first | exact rfl | exact ⟨rfl, rfl⟩ | exact absurd (by decide) hb
theorem modScan_within (f : Scan → Scan) : Within [.scan] s (s.modScan f) := by
  intro b hb; cases b <;> first | exact rfl | exact ⟨rfl, rfl⟩ | exact absurd (by decide) hb
theorem modSeg_within (f : Seg → Seg) : Within [.seg] s (s.modSeg f) := by
  intro b hb; cases b <;> first | exact rfl | exact ⟨rfl, rfl⟩ | exact absurd (by decide) hb
theorem modTab_within (f : Table → Table) : Within [.tab] s (s.modTab f) := by
  intro b hb; cases b <;> first | exact rfl | exact ⟨rfl, rfl⟩ | exact absurd (by decide) hb
theorem modArb_within (f : Arb → Arb) : Within [.arb] s (s.modArb f) := by
  intro b hb; cases b <;> first | exact rfl | exact ⟨rfl, rfl⟩ | exact absurd (by decide) hb
theorem modMag_within (f : Mag → Mag) : Within [.mag] s (s.modMag f) := by
  intro b hb; cases b <;> first | exact rfl | exact ⟨rfl, rfl⟩ | exact absurd (by decide) hb
theorem modEcs_within (f : Ecs → Ecs) : Within [.ecs] s (s.modEcs f) := by
  intro b hb; cases b <;> first | exact rfl | exact ⟨rfl, rfl⟩ | exact absurd (by decide) hb
theorem modJet_within (f : Jet → Jet) : Within [.jet] s (s.modJet f) := by
  intro b hb; cases b <;> first | exact rfl | exact ⟨rfl, rfl⟩ | exact absurd (by decide) hb
theorem modSlink_within (f : LinkState → LinkState) : Within [.slink] s (s.modSlink f) := by
  intro b hb; cases b <;> first | exact rfl | exact ⟨rfl, rfl⟩ | exact absurd (by decide) hb
theorem modClink_within (f : LinkState → LinkState) : Within [.clink] s (s.modClink f) := by
  intro b hb; cases b <;> first | exact rfl | exact ⟨rfl, rfl⟩ | exact absurd (by decide) hb
theorem modTotals_within (f : Totals → Totals) : Within [.tab] s (s.modTotals f) := modTab_within s _
theorem modRecord_within (tag : Nat) (f : Record → Record) : Within [.tab] s (s.modRecord tag f) := modTab_within s _
theorem modSegments_within (f : Nat → Segment → Segment) : Within [.mag] s (s.modSegments f) := modMag_within s _
theorem modFlaps_within (f : Nat → Flap → Flap) : Within [.ecs] s (s.modFlaps f) := modEcs_within s _
theorem modPulses_within (f : Nat → List Pulse → List Pulse) : Within [.jet] s (s.modPulses f) := modJet_within s _
theorem modLine_within (f : Line → Line) : Within [.line] s (s.modLine f) := by
  intro b hb; cases b <;> first | exact rfl | exact ⟨rfl, rfl⟩ | exact absurd (by decide) hb
theorem modSlot_within (k : Fin 3) (f : Slot → Slot) : Within [.slots] s (s.modSlot k f) := by
  intro b hb; cases b <;> first | exact rfl | exact ⟨rfl, rfl⟩ | exact absurd (by decide) hb
theorem modStation_within (st : Station) (f : StationInfo → StationInfo) : Within [.stations] s (s.modStation st f) := by
  intro b hb; cases b <;> first | exact rfl | exact ⟨rfl, rfl⟩ | exact absurd (by decide) hb
theorem latch_within (a : Alert) : Within [.alerts] s (s.latch a) := by
  intro b hb; cases b <;> first | exact rfl | exact ⟨rfl, rfl⟩ | exact absurd (by decide) hb
theorem latchLink_within (c : Cause) (l : Link) : Within [.alerts] s (s.latchLink c l) := by
  intro b hb; cases b <;> first | exact rfl | exact ⟨rfl, rfl⟩ | exact absurd (by decide) hb
theorem clearAlerts_within (set : BitVec 10) : Within [.alerts] s (s.clearAlerts set) := by
  intro b hb; cases b <;> first | exact rfl | exact ⟨rfl, rfl⟩ | exact absurd (by decide) hb
theorem modLink_within (l : Link) (f : LinkState → LinkState) : Within [linkBlock l] s (s.modLink l f) := by
  cases l
  · exact modSlink_within s f
  · exact modClink_within s f
theorem draws_within (n : Nat) : Within [.draws] s { s with draws := n } := by
  intro b hb; cases b <;> first | exact rfl | exact ⟨rfl, rfl⟩ | exact absurd (by decide) hb

end Blocks

/-! ### The order that the manual leaves open -/

theorem choose_within {α : Type} (s : State) (x : α) (xs : List α) : Within [.draws] s (s.choose x xs).2.2 := by
  cases xs
  · exact Within.refl _ s
  · exact draws_within s _

theorem shuffle_within {α : Type} (n : Nat) : ∀ (xs : List α) (s : State), Within [.draws] s (s.shuffle n xs).2 := by
  induction n with
  | zero => exact fun xs s => Within.refl _ s
  | succ n ih =>
    intro xs s
    cases xs with
    | nil => exact Within.refl _ s
    | cons x xs => exact (choose_within s x xs).trans (ih _ _)

/-- What each application of `f` may reach, and the draws. -/
theorem each_within {α : Type} {bs : List Block} (xs : List α) (f : α → State → State) (s : State)
    (h : ∀ x s, Within bs s (f x s)) : Within (.draws :: bs) s (s.each xs f) :=
  Within.seq (shuffle_within xs.length xs s) (foldl_within _ (fun s x => h x s) _ _) (by simp) (by simp +contextual)

/-! ### Rotor, need set and demand (R136 to R141) -/

section Rotor
variable (s : State)

theorem evalRotor_within : Within [.ecs] s s.evalRotor := modEcs_within s _

theorem evalDemand_within : Within [.ecs] s s.evalDemand := by
  unfold State.evalDemand
  exact Within.ite (Within.refl _ s) ((modEcs_within s _).trans (evalRotor_within _))

theorem setSpeed_within (v : Nat) : Within [.ecs] s (s.setSpeed v) := by
  unfold State.setSpeed
  exact Within.ite (Within.refl _ s) ((modEcs_within s _).trans (evalRotor_within _))

theorem startEconomy_within : Within [.ecs] s s.startEconomy := modEcs_within s _

theorem addNeed_within (tag : Nat) : Within [.ecs] s (s.addNeed tag) := by
  unfold State.addNeed
  exact Within.ite (Within.refl _ s) (Within.ite ((modEcs_within s _).trans (evalDemand_within _)) (modEcs_within s _))

theorem dropNeed_within (tag : Nat) : Within [.ecs] s (s.dropNeed tag) := by
  unfold State.dropNeed
  refine Within.ite (Within.ite ?_ (modEcs_within s _)) (Within.refl _ s)
  exact (modEcs_within s _).trans ((startEconomy_within _).trans (evalDemand_within _))

theorem refreshNeed_within (tag : Nat) : Within [.ecs] s (s.refreshNeed tag) := by
  unfold State.refreshNeed
  split
  · exact Within.ite (addNeed_within s tag) (dropNeed_within s tag)
  · exact dropNeed_within s tag

theorem tachEdge_within : Within [.ecs, .draws] s s.tachEdge := by
  unfold State.tachEdge
  split
  · exact (modEcs_within s _).mono (by decide)
  · exact Within.seq (Within.seq (draws_within s _) (setSpeed_within _ _) (cs := [.ecs, .draws]) (by decide) (by decide))
      (modEcs_within _ _) (by decide) (by decide)

end Rotor

/-! ### The fragment table (R41 to R64) -/

section Table
variable (s : State)

theorem slotLoses_within (k : Fin 3) : Within [.slots] s (s.slotLoses k) := modSlot_within s k _

theorem slotGains_within (k : Fin 3) : Within [.slots] s (s.slotGains k) := modSlot_within s k _

theorem settleAs_within (tag : Nat) (d : Disposition) : Within [.tab, .ecs] s (s.settleAs tag d) :=
  Within.seq ((modRecord_within s tag _).trans (modTab_within _ _)) (refreshNeed_within _ tag) (by decide) (by decide)

theorem trySettle_within (tag : Nat) : Within [.tab, .ecs] s (s.trySettle tag) := by
  unfold State.trySettle
  split
  · exact Within.refl _ s
  · split
    · exact Within.refl _ s
    · exact Within.ite (settleAs_within s tag _) (Within.refl _ s)

theorem setOutcome_within (tag : Nat) (st : Station) (o : Result) : Within [.tab, .ecs] s (s.setOutcome tag st o) := by
  unfold State.setOutcome
  split
  · exact Within.refl _ s
  · exact Within.ite (Within.seq (modRecord_within s tag _) (refreshNeed_within _ tag) (by decide) (by decide)) (Within.refl _ s)

theorem retire_within (r : Record) : Within [.tab, .slots, .ecs] s (s.retire r) :=
  Within.seq (Within.seq (modTab_within s _) (slotLoses_within _ _) (cs := [.tab, .slots]) (by decide) (by decide))
    (refreshNeed_within _ _) (by decide) (by decide)

theorem retireTag_within (tag : Nat) : Within [.tab, .slots, .ecs] s (s.retireTag tag) := by
  unfold State.retireTag
  split
  · exact retire_within s _
  · exact Within.refl _ s

theorem evictIfFull_within : Within [.tab, .slots, .ecs] s s.evictIfFull := by
  unfold State.evictIfFull
  refine Within.ite (Within.refl _ s) ?_
  split
  · exact retireTag_within s _
  · exact Within.refl _ s

theorem openRecord_within (t : Tracker) : Within [.tab, .slots, .ecs] s (s.openRecord t).2 := by
  unfold State.openRecord
  simp only
  split
  · exact (slotGains_within _ _).after (by decide) ((modTab_within _ _).after (by decide) (evictIfFull_within s))
  · exact evictIfFull_within s

end Table

/-! ### The claim arbiter (R102 to R118) -/

section Claims
variable (s : State)

theorem withdraw_within (tag : Nat) (st : Station) : Within [.arb] s (s.withdraw tag st) := modArb_within s _

theorem withdrawAll_within (tag : Nat) : Within [.arb] s (s.withdrawAll tag) :=
  ((withdraw_within s tag .m).trans (withdraw_within _ tag .e)).trans (withdraw_within _ tag .a)

theorem conclude_within (tag : Nat) (st : Station) (o : Result) : Within [.tab, .ecs] s (s.conclude tag st o) :=
  (setOutcome_within s tag st o).trans (trySettle_within _ tag)

theorem refuse_within (tag : Nat) (st : Station) (o : Result) : Within [.tab, .ecs, .arb] s (s.refuse tag st o) :=
  Within.seq (withdraw_within s tag st) (conclude_within _ tag st o) (by decide) (by decide)

theorem addClaims_within (st : Station) (lo hi : Nat) (c : Claim) : Within [.arb] s (s.addClaims st lo hi c) := modArb_within s _

theorem placeClaims_within (r : Record) (st : Station) (c : Claim) :
    Within [.tab, .ecs, .arb, .draws] s (s.placeClaims r st c) := by
  have hc : ∀ (t : State) (o : Result), Within [.tab, .ecs, .arb, .draws] t (t.conclude r.tag st o) :=
    fun t o => (conclude_within t r.tag st o).mono (by decide)
  unfold State.placeClaims
  refine Within.ite (hc s _) (Within.ite (hc s _) (Within.ite (hc s _) ?_))
  exact Within.trans (Within.seq (each_within _ _ s fun v t => refuse_within t v st _) (addClaims_within _ _ _ _ _)
    (by decide) (by decide)) (hc _ _)

theorem placeAction_within (tag : Nat) (st : Station) : Within [.tab, .ecs, .arb, .draws] s (s.placeAction tag st) := by
  have hc : ∀ o : Result, Within [.tab, .ecs, .arb, .draws] s (s.conclude tag st o) :=
    fun o => (conclude_within s tag st o).mono (by decide)
  unfold State.placeAction
  split
  · exact Within.refl _ s
  · split
    · refine Within.ite (Within.refl _ s) (Within.ite (hc _) ?_)
      split
      · exact hc _
      · exact placeClaims_within s _ st _
    · exact Within.refl _ s

theorem placeRoute_within (tag : Nat) : Within [.tab, .ecs, .arb, .draws] s (s.placeRoute tag) :=
  ((placeAction_within s tag .m).trans (placeAction_within _ tag .e)).trans (placeAction_within _ tag .a)

end Claims

/-! ### The magnet station (R120 to R134) -/

section Magnet
variable (s : State)

theorem letGo_within (tag : Nat) : Within [.mag] s (s.letGo tag) := modSegments_within s _

theorem liftBegins_within (tag : Nat) : Within [.mag, .tab, .ecs, .arb] s (s.liftBegins tag) := by
  unfold State.liftBegins
  exact Within.ite ((refuse_within s tag .m _).mono (by decide)) ((modSegments_within s _).mono (by decide))

theorem holdOffBegins_within (tag : Nat) : Within [.mag] s (s.holdOffBegins tag) := modSegments_within s _

theorem closeHoldOff_within (tag : Nat) : Within [.mag] s (s.closeHoldOff tag) := modSegments_within s _

theorem cutLift_within (tag : Nat) : Within [.mag, .tab, .ecs, .arb] s (s.cutLift tag) :=
  Within.seq (letGo_within s tag) (refuse_within _ tag .m _) (by decide) (by decide)

theorem segmentFalls_within (k : Nat) : Within [.mag] s (s.segmentFalls k) := modSegments_within s _

theorem limitReached_within (k : Nat) (wasDriven : Bool) :
    Within [.mag, .tab, .ecs, .arb, .alerts, .draws] s (s.limitReached k wasDriven) := by
  unfold State.limitReached
  have h1 := Within.seq (cs := [.mag, .tab, .ecs, .arb, .alerts, .draws]) (modSegments_within s fun j g =>
    if j = k then { g with cooling := true } else g) (latch_within _ .thermal) (by decide) (by decide)
  refine Within.ite (h1.trans ?_) h1
  exact Within.seq (each_within _ _ _ fun tag t => cutLift_within t tag) (segmentFalls_within _ k) (by decide) (by decide)

theorem heatStep_within : Within [.mag, .tab, .ecs, .arb, .alerts, .draws] s s.heatStep :=
  Within.seq (modSegments_within s _) (each_within _ _ _ fun k t => limitReached_within t k true) (by decide) (by decide)

theorem heatMaxWritten_within : Within [.mag, .tab, .ecs, .arb, .alerts, .draws] s s.heatMaxWritten := by
  refine (modSegments_within _ _).after (by decide) ?_
  refine (each_within _ _ _ fun (x : Nat × Bool) t => limitReached_within t x.1 x.2).after (by decide) ?_
  exact (modSegments_within s _).mono (by decide)

theorem seeHot_within : Within [.mag] s s.seeHot := by
  unfold State.seeHot
  exact Within.ite (Within.refl _ s) (modMag_within s _)

theorem magnetReleases_within : Within [.mag] s s.magnetReleases := modSegments_within s _

theorem magnetRestarts_within : Within [.mag] s s.magnetRestarts := (modSegments_within s _).trans (modMag_within _ _)

end Magnet

/-! ### The eddy-current station and the air station (R142 to R161) -/

section EcsJet
variable (s : State)

theorem flapsBegin_within (tag : Nat) (near : Bool) : Within [.ecs] s (s.flapsBegin tag near) := modFlaps_within s _

theorem armLanding_within (tag : Nat) : Within [.ecs] s (s.armLanding tag) := modFlaps_within s _

theorem closeLanding_within (tag : Nat) : Within [.ecs] s (s.closeLanding tag) := modFlaps_within s _

theorem closeAllLanding_within : Within [.ecs] s s.closeAllLanding := modFlaps_within s _

theorem rotorCheck_within (tag : Nat) : Within [.tab, .ecs, .arb] s (s.rotorCheck tag) := by
  unfold State.rotorCheck
  split
  · exact Within.refl _ s
  · refine Within.ite (Within.ite (Within.ite ?_ ?_) ?_) (Within.refl _ s)
    · exact (conclude_within s tag .e _).mono (by decide)
    · exact (armLanding_within s tag).mono (by decide)
    · exact Within.seq (closeLanding_within s tag) (refuse_within _ tag .e _) (by decide) (by decide)

theorem addPulses_within (r : Record) (p : Pulse) : Within [.jet, .tab, .ecs, .arb] s (s.addPulses r p) := by
  unfold State.addPulses
  exact Within.ite ((refuse_within s r.tag .a _).mono (by decide))
    (Within.seq (modPulses_within s _) (trySettle_within _ r.tag) (by decide) (by decide))

theorem makePulse_within (tag : Nat) : Within [.jet, .tab, .ecs, .arb] s (s.makePulse tag) := by
  have hr : ∀ o : Result, Within [.jet, .tab, .ecs, .arb] s (s.refuse tag .a o) :=
    fun o => (refuse_within s tag .a o).mono (by decide)
  unfold State.makePulse
  split
  · exact Within.refl _ s
  · split
    · refine Within.ite (Within.ite (hr _) ?_) (Within.refl _ s)
      split
      · exact hr _
      · exact addPulses_within s _ _
    · exact Within.refl _ s

theorem pulseClosed_within (tag : Nat) : Within [.tab, .ecs] s (s.pulseClosed tag) := by
  unfold State.pulseClosed
  exact Within.ite (trySettle_within s tag) (conclude_within s tag .a _)

theorem withdrawPulses_within (tag : Nat) : Within [.jet] s (s.withdrawPulses tag) := modPulses_within s _

theorem dropPulses_within : Within [.jet] s s.dropPulses := modPulses_within s _

end EcsJet

/-! ### The stations (R116, R165) -/

section Stations
variable (s : State)

theorem blockLeaves_within (st : Station) : Within [.mag, .ecs, .jet] s (s.blockLeaves st) := by
  cases st <;> unfold State.blockLeaves
  · exact Within.mono ((magnetReleases_within s).trans (modMag_within _ _)) (by decide)
  · exact Within.mono ((closeAllLanding_within s).trans (modEcs_within _ _)) (by decide)
  · exact Within.mono ((dropPulses_within s).trans (modJet_within _ _)) (by decide)

theorem leaveReady_within (st : Station) (why : Reason) : Within [.tab, .arb, .mag, .ecs, .jet] s (s.leaveReady st why) := by
  unfold State.leaveReady
  have h := Within.seq (cs := [.tab, .arb, .mag, .ecs, .jet]) (Within.seq (cs := [.tab, .arb]) (modTab_within s fun t =>
    { t with
      records := t.records.map fun r =>
        match s.leavingOutcome st why r with
        | some o => { r with outcome := r.outcome.set st o }
        | none => r }) (modArb_within _ fun a => a.map st fun _ _ => []) (by decide) (by decide))
    ((blockLeaves_within _ st).trans ((evalDemand_within _).mono (by decide))) (by decide) (by decide)
  exact Within.ite (h.trans ((foldl_within _ (fun t tag => refreshNeed_within t tag) _ _).mono (by decide))) h

theorem goTo_within (st : Station) (avail : Avail) (wait : Option W32) (why : Reason) :
    Within [.stations, .tab, .arb, .mag, .ecs, .jet] s (s.goTo st avail wait why) := by
  unfold State.goTo
  exact Within.ite (Within.seq (modStation_within s st _) (leaveReady_within _ st why) (by decide) (by decide))
    ((modStation_within s st _).mono (by decide))

theorem goAll_within (sts : List Station) (avail : Avail) (wait : Option W32) (why : Reason) :
    Within leavingBlocks s (s.goAll sts avail wait why) :=
  Within.seq (foldl_within _ (fun t st => goTo_within t st avail wait why) sts s)
    (each_within _ _ _ fun tag t => trySettle_within t tag) (by decide) (by decide)

theorem becomeReady_within (st : Station) : Within [.stations, .ecs] s (s.becomeReady st) :=
  Within.seq (modStation_within s st _) (evalDemand_within _) (by decide) (by decide)

theorem censusOf_within (sts : List Station) : Within leavingBlocks s (s.censusOf sts) := by
  unfold State.censusOf
  refine (goAll_within s sts _ _ _).trans (foldl_within _ (fun t st => ?_) sts _)
  exact Within.ite ((becomeReady_within t st).mono (by decide)) (Within.refl _ t)

theorem faultStation_within (st : Station) : Within (.alerts :: leavingBlocks) s (s.faultStation st) := by
  unfold State.faultStation
  exact Within.ite (Within.seq (goAll_within s [st] _ _ _) (latch_within _ .station) (by decide) (by decide)) (Within.refl _ s)

theorem okAsserted_within (st : Station) : Within [.stations, .ecs] s (s.okAsserted st) := by
  unfold State.okAsserted
  exact Within.ite (becomeReady_within s st) (Within.refl _ s)

end Stations

/-! ### Routing, and the reached points of a record (R46 to R48, R77 to R81, R92, R112 to R114) -/

section Points
variable (s : State)

theorem decisionPoint_within (tag : Nat) : Within [.tab, .ecs, .arb, .draws] s (s.decisionPoint tag) := by
  unfold State.decisionPoint
  split
  · exact Within.refl _ s
  · split
    · exact Within.refl _ s
    · refine Within.ite ?_ (Within.refl _ s)
      exact Within.trans (Within.seq (modRecord_within s tag _) (refreshNeed_within _ tag) (by decide) (by decide))
        (placeRoute_within _ tag)

theorem replaceRoute_within (tag : Nat) (e : RouteEntry) : Within [.tab, .ecs, .arb, .draws] s (s.replaceRoute tag e) :=
  Within.trans (Within.seq (Within.seq (withdrawAll_within s tag) (modRecord_within _ tag _) (cs := [.tab, .arb]) (by decide)
    (by decide)) (refreshNeed_within _ tag) (by decide) (by decide)) (placeRoute_within _ tag)

theorem switchTakesEffect_within : Within [.slots, .psw, .switchMark, .ecs] s s.switchTakesEffect := by
  have h : Within [.slots, .psw, .switchMark, .ecs] s ((s.modRcp fun r =>
      { r with slots := r.slots.mapIdx fun _ k => k.switched r.line.rotorMaxRpm, psw := none }).modLsig fun l =>
        { l with switchMark := some (after s.now 10000) }) := by
    intro b hb; cases b <;> first | exact rfl | exact ⟨rfl, rfl⟩ | exact absurd (by decide) hb
  exact h.trans (((evalDemand_within _).trans (evalRotor_within _)).mono (by decide))

theorem switchPoint_within : Within [.slots, .psw, .switchMark, .ecs] s s.switchPoint := by
  unfold State.switchPoint
  exact Within.ite (switchTakesEffect_within s) (Within.refl _ s)

theorem stationBegins_within (tag : Nat) (k : ClaimKind) : Within [.mag, .tab, .ecs, .arb] s (s.stationBegins tag k) := by
  cases k
  · exact liftBegins_within s tag
  · exact (holdOffBegins_within s tag).mono (by decide)
  · exact (flapsBegin_within s tag true).mono (by decide)
  · exact (flapsBegin_within s tag false).mono (by decide)
  · exact Within.refl _ s
  · exact Within.refl _ s

theorem actionBegins_within (tag : Nat) (st : Station) :
    Within [.arb, .tab, .stations, .mag, .ecs] s (s.actionBegins tag st) := by
  unfold State.actionBegins
  split
  · exact Within.refl _ s
  · have h := Within.seq (cs := [.arb, .tab, .stations, .mag, .ecs]) (Within.seq (cs := [.arb, .tab])
      (modArb_within s fun a => a.map st fun _ l => l.map fun c => if c.owner = tag then { c with begun := true } else c)
      (modRecord_within _ tag fun r => if r.outcome.get st = .placed then { r with outcome := r.outcome.set st .acting } else r)
      (by decide) (by decide)) (modStation_within _ st fun i => { i with acted := true }) (by decide) (by decide)
    exact h.trans (Within.seq (stationBegins_within _ tag _) (trySettle_within _ tag) (by decide) (by decide))

theorem liftReleased_within (tag : Nat) : Within [.mag] s (s.liftReleased tag) := by
  unfold State.liftReleased
  split
  · exact Within.refl _ s
  · exact letGo_within s tag

theorem stationEnds_within (tag : Nat) (k : ClaimKind) : Within [.mag, .ecs] s (s.stationEnds tag k) := by
  cases k
  · exact Within.refl _ s
  · exact (closeHoldOff_within s tag).mono (by decide)
  · exact (closeLanding_within s tag).mono (by decide)
  · exact (closeLanding_within s tag).mono (by decide)
  · exact Within.refl _ s
  · exact Within.refl _ s

theorem actionEnds_within (tag : Nat) (st : Station) : Within [.arb, .tab, .mag, .ecs] s (s.actionEnds tag st) := by
  unfold State.actionEnds
  split
  · exact Within.refl _ s
  · refine Within.trans (Within.seq (Within.trans ?_ ((stationEnds_within _ tag _).mono (by decide))) (withdraw_within _ tag st)
      (as := [.arb, .tab, .mag, .ecs]) (by decide) (by decide)) ((trySettle_within _ tag).mono (by decide))
    split
    · exact (setOutcome_within s tag st _).mono (by decide)
    · exact Within.refl _ s

theorem frontDeparts_within (tag : Nat) : Within [.tab, .ecs, .arb, .jet] s (s.frontDeparts tag) := by
  unfold State.frontDeparts
  split
  · exact Within.refl _ s
  · refine Within.ite ?_ (Within.refl _ s)
    exact Within.seq (Within.seq (modRecord_within s tag _) (rotorCheck_within _ tag) (cs := [.tab, .ecs, .arb]) (by decide)
      (by decide)) (makePulse_within _ tag) (by decide) (by decide)

theorem tailDeparts_within (tag : Nat) : Within [.tab, .ecs] s (s.tailDeparts tag) := by
  unfold State.tailDeparts
  split
  · exact Within.refl _ s
  · exact Within.ite (Within.seq (modRecord_within s tag _) (trySettle_within _ tag) (by decide) (by decide)) (Within.refl _ s)

end Points

/-! ### One scan (R19 to R37) -/

section Scan

/-- What one scan may reach. -/
abbrev segmentBlocks : List Block := [.seg, .tab, .slots, .ecs, .alerts, .clink, .draws]

theorem retireLoser_within (t : Tracker) (s : State) : Within [.tab, .slots, .ecs] s (s.retireLoser t) := by
  unfold State.retireLoser
  split
  · exact retireTag_within s _
  · exact Within.refl _ s

theorem syncRecord_within (t : Tracker) (s : State) : Within [.tab] s (s.syncRecord t) := by
  unfold State.syncRecord
  split
  · exact modRecord_within s _ _
  · exact Within.refl _ s

theorem mergeGroup_within (x : Live) (xs : List Live) (s : State) : Within segmentBlocks s (s.mergeGroup x xs).2 := by
  refine (syncRecord_within _ _).after (by decide) ?_
  refine (foldl_within _ (fun t (y : Live) => retireLoser_within y.tracker t) _ _).after (by decide) ?_
  exact (shuffle_within _ _ s).mono (by decide)

theorem openTracker_within (tMix : Nat) (readings : List Reading) (notes : List Span) (run : Span) (s : State) :
    Within segmentBlocks s (s.openTracker tMix readings notes run).2 := by
  unfold State.openTracker
  simp only
  generalize ht : Tracker.take tMix readings run _ = t
  have h := openRecord_within s t
  split <;> rename_i heq
  · exact (heq ▸ h : Within _ s _).mono (by decide)
  · exact Within.seq (heq ▸ h : Within _ s _) (latch_within _ .tableFull) (by decide) (by decide)

theorem takeRun_within (tMix : Nat) (readings : List Reading) (notes : List Span) (run : Span) (w : List Live × State) :
    Within segmentBlocks w.2 (State.takeRun tMix readings notes run w).2 := by
  unfold State.takeRun
  simp only
  split
  · exact openTracker_within tMix readings notes run w.2
  · exact Within.seq (mergeGroup_within _ _ w.2) (syncRecord_within _ _) (by decide) (by decide)

/-- A fold over trackers and state keeps a frame that each step keeps. -/
theorem foldl_pair_within {α : Type} {bs : List Block} (f : List Live × State → α → List Live × State)
    (h : ∀ w x, Within bs w.2 (f w x).2) (xs : List α) : ∀ w, Within bs w.2 (xs.foldl f w).2 := by
  induction xs with
  | nil => exact fun w => Within.refl bs w.2
  | cons x xs ih => exact fun w => (h w x).trans (ih (f w x))

theorem mergeAdjoining_within (w : List Live × State) : Within segmentBlocks w.2 (State.mergeAdjoining w).2 := by
  unfold State.mergeAdjoining
  split
  · exact Within.refl _ w.2
  · refine foldl_pair_within _ (fun acc g => ?_) _ ([], w.2)
    split
    · exact Within.refl _ acc.2
    · exact Within.refl _ acc.2
    · exact mergeGroup_within _ _ acc.2

theorem sight_within (r : Record) (c : Closing) (s : State) : Within [.clink] s (s.sight r c) := by
  unfold State.sight
  exact Within.ite (modClink_within s _) (Within.refl _ s)

theorem closeRecord_within (tag : Nat) (c : Closing) (isLong : Bool) (s : State) :
    Within segmentBlocks s (s.closeRecord tag c isLong) := by
  unfold State.closeRecord
  simp only
  split
  · refine (refreshNeed_within _ tag).after (by decide) ((sight_within _ _ _).after (by decide) ?_)
    exact (modRecord_within s tag _).mono (by decide)
  · exact (modRecord_within s tag _).mono (by decide)

theorem closeTracker_within (x : Tracker) (t : W32) (isLong : Bool) (s : State) :
    Within segmentBlocks s (s.closeTracker x t isLong) := by
  unfold State.closeTracker
  split
  · exact closeRecord_within _ _ isLong s
  · exact (modTotals_within s _).mono (by decide)
  · exact Within.refl _ s

theorem closeStep_within (gapScans lMax : Nat) (s : State) (x : Live) : Within segmentBlocks s (State.closeStep gapScans lMax s x) := by
  unfold State.closeStep
  split
  · exact (modSeg_within s _).mono (by decide)
  · exact Within.ite ((closeTracker_within _ _ _ s).trans ((modSeg_within _ _).mono (by decide))) (closeTracker_within _ _ _ s)

theorem segment_within (p : RecipeParams) (readings : List Reading) (s : State) : Within segmentBlocks s (s.segment p readings) := by
  refine (foldl_within _ (fun t x => closeStep_within p.gapScans s.line.lMax t x) _ _).after (by decide) ?_
  refine (modSeg_within _ _).after (by decide) ((mergeAdjoining_within _).after (by decide) ?_)
  exact foldl_pair_within _ (fun w run => takeRun_within p.tMix readings s.seg.notes run w) _
    (s.seg.trackers.map fun t => { tracker := t, took := false }, s)

theorem scanBar_within (samples : Vector Sample 32) (s : State) :
    Within [.scan, .seg, .tab, .slots, .ecs, .alerts, .clink, .draws] s (s.scanBar samples) := by
  refine (segment_within _ _ _).after (by decide) (Within.ite ?_ ?_)
  · exact (latch_within _ .coil).after (by decide) ((modScan_within s _).mono (by decide))
  · exact (modScan_within s _).mono (by decide)

end Scan

/-! ### The advance and the encoder (R1 to R4, R8) -/

section Encoder
variable (samples : Vector Sample 32) (s : State)

/-- What an advance may reach. -/
abbrev advanceBlocks : List Block :=
  [.pos, .scan, .seg, .tab, .slots, .psw, .arb, .mag, .ecs, .jet, .stations, .alerts, .switchMark, .clink, .draws]

theorem bringAbout_within (e : Event) : Within advanceBlocks s (s.bringAbout samples e) := by
  cases e
  · exact (modPos_within s _).mono (by decide)
  · exact (scanBar_within samples s).mono (by decide)
  · exact (decisionPoint_within s _).mono (by decide)
  · exact (actionBegins_within s _ _).mono (by decide)
  · exact (liftReleased_within s _).mono (by decide)
  · exact (actionEnds_within s _ _).mono (by decide)
  · exact (frontDeparts_within s _).mono (by decide)
  · exact (tailDeparts_within s _).mono (by decide)
  · exact (switchPoint_within s).mono (by decide)

theorem deliver_within (n : Nat) : ∀ (evs : List Event) (s : State), Within advanceBlocks s (s.deliver samples n evs) := by
  induction n with
  | zero => exact fun evs s => Within.refl _ s
  | succ n ih =>
    intro evs s
    unfold State.deliver
    split
    · exact Within.refl _ s
    · exact ((choose_within s _ _).mono (by decide)).trans ((bringAbout_within samples _ _).trans (ih _ _))

theorem advance_within : Within advanceBlocks s (s.advance samples) :=
  ((modPos_within s _).mono (by decide)).trans (deliver_within samples _ _ _)

theorem acceptEdge_within : Within advanceBlocks s (s.acceptEdge samples) := by
  unfold State.acceptEdge
  simp only
  refine Within.trans ((modPos_within s fun p => { p with lastEdge := some p.time, accA := s.inputs.encA, accB := s.inputs.encB }).mono
    (by decide)) ?_
  split
  · exact Within.refl _ _
  · unfold State.forwardCount
    exact Within.ite ((modPos_within _ _).mono (by decide)) (advance_within samples _)
  · exact (latch_within _ .encoder).mono (by decide)
  · unfold State.reverseCount
    exact Within.ite ((modPos_within _ _).mono (by decide)) ((latch_within _ .reverse).mono (by decide))

end Encoder

/-! ### The links (R65, R66, R163, R164) -/

section Links
variable (l : Link) (s : State)

theorem rxResult_within (r : RxResult) : Within [linkBlock l, .alerts] s (s.rxResult l r) := by
  have h : ∀ (f : LinkState → LinkState) (t : State), Within [linkBlock l, .alerts] t (t.modLink l f) :=
    fun f t => (modLink_within t l f).mono (by simp)
  have ha : ∀ (c : Cause) (t : State), Within [linkBlock l, .alerts] t (t.latchLink c l) :=
    fun c t => (latchLink_within t c l).mono (by simp)
  cases r
  · exact Within.refl _ s
  · refine (h _ s).trans (Within.ite (h _ _) ?_)
    exact ((latch_within _ .overrun).mono (by simp)).trans (ha _ _)
  · exact (h _ s).trans (ha _ _)

theorem receiveByte_within (b : Byte) (stopBit : Bool) : Within [linkBlock l, .alerts] s (s.receiveByte l b stopBit) :=
  ((modLink_within s l _).mono (by simp)).trans (rxResult_within l _ _)

/-- Taking a request reaches its link, and what serving it reaches. -/
theorem takeRequest_within (row : Instr) (serve : List Byte → State → State × Reply) (bs : List Block)
    (h : ∀ body t, Within bs t (serve body t).1) : Within (linkBlock l :: bs) s (s.takeRequest l row serve) := by
  unfold State.takeRequest
  split
  · exact Within.refl _ s
  · refine Within.ite ?_ (Within.refl _ s)
    refine (modLink_within _ l _).after (by simp) ((h _ _).after (by simp +contextual) ?_)
    exact (modLink_within s l _).mono (by simp)

theorem ofLength_within (n : Nat) (serve : List Byte → State → State × Reply) (bs : List Block) (h : ∀ body t, Within bs t (serve body t).1)
    (body : List Byte) : Within bs s (ofLength n serve body s).1 := by
  unfold ofLength
  split
  · exact h body s
  · exact Within.refl _ s

end Links

/-! ### What the requests do in the blocks (R70, R87, R97, R58, R59, R171) -/

section Requests
variable (s : State)

theorem giveVerdict_within (r : Record) (code conf : Nat) : Within [.tab] s (s.giveVerdict r code conf).1 := by
  unfold State.giveVerdict
  split
  · exact modRecord_within s _ _
  · split <;> exact modRecord_within s _ _

theorem storeLine_within (p : LineParam) (v : Nat) : Within [.line] s (s.storeLine p v) := modLine_within s _

theorem writeSlot_within (k : Fin 3) (f : Recipe → Recipe) : Within [.slots, .psw] s (s.writeSlot k f) := by
  intro b hb; cases b <;> first | exact rfl | exact ⟨rfl, rfl⟩ | exact absurd (by decide) hb

theorem cancelRecord_within (r : Record) : Within [.tab, .arb, .ecs, .jet, .seg, .slots] s (s.cancelRecord r) := by
  refine (modTotals_within _ _).after (by decide) ((retire_within _ _).after (by decide) ?_)
  refine (modSeg_within _ _).after (by decide) ((withdrawPulses_within _ _).after (by decide) ?_)
  exact (closeLanding_within _ _).after (by decide) ((withdrawAll_within s _).mono (by decide))

theorem purgeNeed_within : Within [.ecs] s s.purgeNeed := by
  unfold State.purgeNeed
  exact Within.ite (Within.refl _ s) ((evalDemand_within _).after (by decide) ((startEconomy_within _).after (by decide)
    (modEcs_within s _)))

/-- What PURGE may reach. -/
abbrev purgeBlocks : List Block := [.seg, .tab, .slots, .arb, .mag, .ecs, .jet]

theorem purge_within : Within purgeBlocks s s.purge := by
  have hr : ∀ t : State, Within [.slots] t (t.modRcp fun r =>
      { r with slots := r.slots.mapIdx fun _ k => k.purge r.line.rotorMaxRpm }) := by
    intro t b hb; cases b <;> first | exact rfl | exact ⟨rfl, rfl⟩ | exact absurd (by decide) hb
  refine (purgeNeed_within _).after (by decide) ((dropPulses_within _).after (by decide) ?_)
  refine (closeAllLanding_within _).after (by decide) ((magnetReleases_within _).after (by decide) ?_)
  refine (modArb_within _ _).after (by decide) ((hr _).after (by decide) ?_)
  exact (modTab_within _ _).after (by decide) ((modSeg_within s _).mono (by decide))

/-- What RESTART may reach. -/
abbrev restartReach : List Block :=
  [.clink, .pos, .scan, .seg, .tab, .slots, .psw, .arb, .mag, .ecs, .jet, .stations, .alerts, .switchMark, .draws]

theorem restartBlocks_within : Within restartReach s s.restartBlocks := by
  have hp : ∀ t : State, Within [.psw] t (t.modRcp fun r => { r with psw := none }) := by
    intro t b hb; cases b <;> first | exact rfl | exact ⟨rfl, rfl⟩ | exact absurd (by decide) hb
  refine (modJet_within _ _).after (by decide) ((modEcs_within _ _).after (by decide) ?_)
  refine (magnetRestarts_within _).after (by decide) ((modClink_within _ _).after (by decide) ?_)
  refine (hp _).after (by decide) ((modTab_within _ _).after (by decide) ((modSeg_within _ _).after (by decide) ?_))
  exact (modScan_within _ _).after (by decide) ((modPos_within s _).mono (by decide))

theorem lsigRestarts_within : Within [.stations, .alerts, .switchMark] s s.lsigRestarts := by
  have h : ∀ t : State, Within [.alerts, .switchMark] t (t.modLsig fun l =>
      { l with alerts := 0, linkCause := none, switchMark := none }) := by
    intro t b hb; cases b <;> first | exact rfl | exact ⟨rfl, rfl⟩ | exact absurd (by decide) hb
  refine (h _).after (by decide) ((modStation_within _ .a _).after (by decide) ?_)
  exact (modStation_within _ .e _).after (by decide) ((modStation_within s .m _).mono (by decide))

theorem restart_within : Within restartReach s s.restart := by
  have h : Within restartReach s s.purge.restartBlocks.lsigRestarts.evalDemand := by
    refine (evalDemand_within _).after (by decide) ((lsigRestarts_within _).after (by decide) ?_)
    exact (restartBlocks_within _).after (by decide) ((purge_within s).mono (by decide))
  exact Within.ite h ((censusOf_within _ _).after (by decide) h)

end Requests

end Sys2Proof.Machine
end

