-- ==== Sys2Proof/Laws/Requests.lean ====
section
/-! SUPPORT. The laws of request bodies and of the taking of a request: what a field of a body reads, and what a request that waits comes
to. -/

namespace Sys2Proof.Machine

/-! ### Fields -/

@[simp] theorem le_zero (v : Nat) : le 0 v = [] := rfl
@[simp] theorem le_succ (n v : Nat) : le (n + 1) v = BitVec.ofNat 8 v :: le n (v / 256) := rfl

@[simp] theorem length_le (n v : Nat) : (le n v).length = n := by
  induction n generalizing v with
  | zero => rfl
  | succ n ih => simp [ih]

@[simp] theorem byteAt_zero (b : Byte) (bs : List Byte) : byteAt (b :: bs) 0 = b.toNat := rfl
@[simp] theorem byteAt_succ (b : Byte) (bs : List Byte) (i : Nat) : byteAt (b :: bs) (i + 1) = byteAt bs i := rfl

theorem halfAt_succ (b : Byte) (bs : List Byte) (i : Nat) : halfAt (b :: bs) (i + 1) = halfAt bs i := rfl
theorem wordAt_succ (b : Byte) (bs : List Byte) (i : Nat) : wordAt (b :: bs) (i + 1) = wordAt bs i := rfl

/-- A 16-bit field reads what was written. -/
theorem halfAt_le (v : Nat) (bs : List Byte) (h : v < 65536) : halfAt (le 2 v ++ bs) 0 = v := by
  simp [halfAt, byteAt]
  omega

/-- A 32-bit field reads what was written. -/
theorem wordAt_le (v : Nat) (bs : List Byte) (h : v < 4294967296) : wordAt (le 4 v ++ bs) 0 = v := by
  simp [wordAt, halfAt, byteAt]
  omega

/-- The fields of a PARAM_WRITE's body (section 10.7). -/
theorem length_paramBody (number slot value : Nat) : (paramBody number slot value).length = 7 := by
  simp [paramBody]

theorem paramBody_number (number slot value : Nat) (h : number < 65536) : halfAt (paramBody number slot value) 0 = number := by
  simp [paramBody, halfAt, byteAt]
  omega

theorem paramBody_slot (number slot value : Nat) (h : slot < 256) : byteAt (paramBody number slot value) 2 = slot := by
  simp [paramBody, byteAt]
  omega

theorem paramBody_value (number slot value : Nat) (h : value < 4294967296) :
    wordAt (paramBody number slot value) 3 = value := by
  simp [paramBody, wordAt, halfAt, byteAt]
  omega

/-! ### The taking of a request (R66, R164) -/

/-- A request that waits is the request that can be taken. -/
theorem State.Waits.request {s : State} {l : Link} {kind : Nat} {body : List Byte} {rest : List Frame} (h : s.Waits l kind body rest) :
    s.request l = some { kind := BitVec.ofNat 8 kind, body := body } := by
  simp [State.request, h.1, h.2]

/-- A request that waits for the row that serves it is served against the state it has left, and its reply joins the transmit queue. -/
theorem takeRequest_of_waits {s : State} {l : Link} {kind : Nat} {body : List Byte} {rest : List Frame} {row : Instr}
    (serve : List Byte → State → State × Reply) (h : s.Waits l kind body rest)
    (hrow : rowOf l { kind := BitVec.ofNat 8 kind, body := body } = row) :
    s.takeRequest l row serve =
      (serve body (s.popped l rest)).1.replied l kind (serve body (s.popped l rest)).2.status (serve body (s.popped l rest)).2.rest
        (serve body (s.popped l rest)).2.rateAfter := by
  have hp : (s.modLink l fun k => { k with rxQueue := k.rxQueue.tail }) = s.popped l rest := by
    unfold State.popped
    have hq := h.1
    cases l <;> simp only [State.link] at hq <;> simp [State.modLink, State.modSlink, State.modClink, hq]
  have hk : BitVec.ofNat 8 kind + 0x80#8 = BitVec.ofNat 8 (kind + 0x80) := (BitVec.ofNat_add kind 0x80).symm
  simp only [State.takeRequest, h.request, hrow, if_true, hp, State.replied]
  simp only [Reply.frame, hk]
  rfl

/-- No request that another row serves is taken. -/
theorem takeRequest_of_other {s : State} {l : Link} {row : Instr} (serve : List Byte → State → State × Reply)
    (h : ∀ f, s.request l = some f → rowOf l f ≠ row) : s.takeRequest l row serve = s := by
  unfold State.takeRequest
  split
  · rfl
  · next f hf => rw [if_neg (h f hf)]

/-- A body of the right length is served. -/
theorem ofLength_eq {n : Nat} (serve : List Byte → State → State × Reply) {body : List Byte} (s : State) (h : body.length = n) :
    ofLength n serve body s = serve body s := if_pos h

/-- A body of another length is answered BAD_LEN, and nothing changes. -/
theorem ofLength_bad {n : Nat} (serve : List Byte → State → State × Reply) {body : List Byte} (s : State) (h : body.length ≠ n) :
    ofLength n serve body s = (s, { status := .badLen, rest := [] }) := if_neg h

/-- A write of a parameter that has a row of its own, once it waits. -/
theorem takeWrite_of_waits {s : State} {number slot value : Nat} {rest : List Frame} {row : Instr}
    (serve : Nat → Nat → Nat → State → State × Reply) (h : s.Waits .supervisor 0x21 (paramBody number slot value) rest)
    (hrow : paramWriteRow (paramBody number slot value) = row) (hn : number < 65536) (hs : slot < 256) (hv : value < 4294967296) :
    s.takeWrite row serve =
      (serve number slot value (s.popped .supervisor rest)).1.replied .supervisor 0x21
        (serve number slot value (s.popped .supervisor rest)).2.status (serve number slot value (s.popped .supervisor rest)).2.rest
        (serve number slot value (s.popped .supervisor rest)).2.rateAfter := by
  have hr : rowOf .supervisor { kind := BitVec.ofNat 8 0x21, body := paramBody number slot value } = row := hrow
  simp only [State.takeWrite, takeRequest_of_waits _ h hr, ofLength_eq _ _ (length_paramBody number slot value),
    paramBody_number _ _ _ hn, paramBody_slot _ _ _ hs, paramBody_value _ _ _ hv]

/-- What a taken request leaves of a state, block by block. -/
theorem popped_within (s : State) (l : Link) (rest : List Frame) : Within [linkBlock l] s (s.popped l rest) := modLink_within s l _

theorem replied_within (s : State) (l : Link) (kind : Nat) (status : Status) (rest : List Byte) (rateAfter : Option Nat) :
    Within [linkBlock l] s (s.replied l kind status rest rateAfter) := modLink_within s l _

end Sys2Proof.Machine
end

