-- ==== Sys2Proof/Laws/Operations.lean ====
section
/-! SUPPORT. What each operation that many commands share can answer, said once: the choice of an order, the writing of an outcome, the
settle test, retirement, the demand, and the taking of a request. -/

namespace Sys2Proof.Machine

/-! ### An order that the manual leaves open -/

/-- A list is its `k`-th member with the others. -/
theorem perm_getD_eraseIdx {α : Type} (d : α) : ∀ (l : List α) (k : Nat), k < l.length → l.Perm (l.getD k d :: l.eraseIdx k)
  | [], k, h => absurd h (Nat.not_lt_zero k)
  | x :: xs, 0, _ => List.Perm.refl _
  | x :: xs, k + 1, h => by
    have ih := perm_getD_eraseIdx d xs k (Nat.lt_of_succ_lt_succ h)
    exact (ih.cons x).trans (List.Perm.swap _ _ _)

/-- A choice takes one of the things and leaves the others; of the state it moves the draws alone. -/
theorem State.choose_spec {α : Type} (s : State) (x : α) (xs : List α) :
    (x :: xs).Perm ((s.choose x xs).1 :: (s.choose x xs).2.1) ∧
      (s.choose x xs).2.2 = { s with draws := (s.choose x xs).2.2.draws } := by
  cases xs with
  | nil => exact ⟨List.Perm.refl _, rfl⟩
  | cons y ys => exact ⟨perm_getD_eraseIdx x (x :: y :: ys) _ (Nat.mod_lt _ (Nat.succ_pos _)), rfl⟩

/-- What is chosen is one of the things. -/
theorem State.choose_mem {α : Type} (s : State) (x : α) (xs : List α) : (s.choose x xs).1 ∈ x :: xs :=
  (s.choose_spec x xs).1.mem_iff.mpr List.mem_cons_self

/-- A shuffle of as many things as there are is an order of them all; of the state it moves the draws alone. -/
theorem State.shuffle_spec {α : Type} : ∀ (n : Nat) (xs : List α) (s : State),
    (s.shuffle n xs).1.Perm xs ∧ (s.shuffle n xs).2 = { s with draws := (s.shuffle n xs).2.draws }
  | 0, xs, s => by cases xs <;> exact ⟨List.Perm.refl _, rfl⟩
  | n + 1, [], s => ⟨List.Perm.refl _, rfl⟩
  | n + 1, x :: xs, s => by
    have hc := s.choose_spec x xs
    have ih := State.shuffle_spec n (s.choose x xs).2.1 (s.choose x xs).2.2
    refine ⟨(ih.1.cons _).trans hc.1.symm, ?_⟩
    have h2 := ih.2.trans (congrArg (fun t : State => { t with draws := ((s.choose x xs).2.2.shuffle n (s.choose x xs).2.1).2.draws }) hc.2)
    exact h2

/-- A property that the draws do not touch, and that one application keeps, is kept by one application for each of the things. -/
theorem State.each_induct {α : Type} {P : State → Prop} (hd : ∀ s n, P s → P { s with draws := n }) (xs : List α)
    (f : α → State → State) (hf : ∀ x ∈ xs, ∀ s, P s → P (f x s)) (s : State) (h : P s) : P (s.each xs f) := by
  have hs := State.shuffle_spec xs.length xs s
  have hm : ∀ x ∈ (s.shuffle xs.length xs).1, x ∈ xs := fun x hx => hs.1.mem_iff.mp hx
  have h0 : P (s.shuffle xs.length xs).2 := by rw [hs.2]; exact hd s _ h
  show P ((s.shuffle xs.length xs).1.foldl (fun s x => f x s) (s.shuffle xs.length xs).2)
  generalize (s.shuffle xs.length xs).1 = ys at hm
  generalize (s.shuffle xs.length xs).2 = t at h0
  clear hs h s
  induction ys generalizing t with
  | nil => exact h0
  | cons y ys ih =>
    exact ih (fun x hx => hm x (List.mem_cons_of_mem y hx)) (f y t) (hf y (hm y List.mem_cons_self) t h0)

/-- A property that the draws do not touch, and that each thing brought about keeps, is kept by an advance's deliveries. -/
theorem State.deliver_induct {P : State → Prop} (hd : ∀ s n, P s → P { s with draws := n }) (samples : Vector Sample 32)
    (hf : ∀ e s, P s → P (s.bringAbout samples e)) : ∀ (n : Nat) (evs : List Event) (s : State), P s → P (s.deliver samples n evs)
  | 0, _, _, h => h
  | n + 1, evs, s, h => by
    unfold State.deliver
    split
    · exact h
    · next x xs _ =>
      refine State.deliver_induct hd samples hf n _ _ (hf _ _ ?_)
      rw [(s.choose_spec x xs).2]
      exact hd s _ h

/-! ### Outcomes, settling and retirement -/

/-- The writing of an outcome: nothing, or a record in progress takes it and the need set follows. -/
theorem State.setOutcome_cases (tag : Nat) (st : Station) (o : Result) (s : State) :
    s.setOutcome tag st o = s ∨ ∃ r, s.find tag = some r ∧ (r.outcome.get st).inProgress = true ∧
      s.setOutcome tag st o = (s.modRecord tag fun r => { r with outcome := r.outcome.set st o }).refreshNeed tag := by
  unfold State.setOutcome
  split
  · exact .inl rfl
  · next r h =>
    split
    · next hp => exact .inr ⟨r, h, hp, rfl⟩
    · exact .inl rfl

/-- The settle test: nothing, or a record that passes it settles with its disposition. -/
theorem State.trySettle_cases (tag : Nat) (s : State) :
    s.trySettle tag = s ∨ ∃ r e, s.find tag = some r ∧ r.route = some e ∧ s.settles r = true ∧
      s.trySettle tag = s.settleAs tag (r.dispose e) := by
  unfold State.trySettle
  split
  · exact .inl rfl
  · next r h =>
    split
    · exact .inl rfl
    · next e he =>
      split
      · next hs => exact .inr ⟨r, e, h, he, hs, rfl⟩
      · exact .inl rfl

/-- A tail departure: nothing, or a record whose tail departure lies at the present position, and that has not settled, is marked and put
to the settle test. -/
theorem State.tailDeparts_cases (tag : Nat) (s : State) :
    s.tailDeparts tag = s ∨ ∃ r, s.find tag = some r ∧ r.departsAt s.line s.here = true ∧
      s.tailDeparts tag = (s.modRecord tag fun r => { r with tailGone := true }).trySettle tag := by
  unfold State.tailDeparts
  split
  · exact .inl rfl
  · next r h =>
    split
    · next hp => exact .inr ⟨r, h, hp, rfl⟩
    · exact .inl rfl

/-- A retirement by tag: nothing, or the live record of the tag is retired. -/
theorem State.retireTag_cases (tag : Nat) (s : State) :
    s.retireTag tag = s ∧ s.find tag = none ∨ ∃ r, s.find tag = some r ∧ s.retireTag tag = s.retire r := by
  unfold State.retireTag
  split
  · next r h => exact .inr ⟨r, h, rfl⟩
  · next h => exact .inl ⟨rfl, h⟩

/-! ### The demand -/

/-- The evaluation of the demand moves the demand, the rotor state and the two watches over it, and leaves the demand at what R137 asks
for. -/
theorem State.evalDemand_spec (s : State) :
    ∃ rotor spinUp stall, s.evalDemand = { s with ecs := { s.ecs with
      demandKind := s.demandFor.1, demandValue := s.demandFor.2, rotor := rotor, spinUp := spinUp, stall := stall } } := by
  show ∃ rotor spinUp stall, (if s.demandFor.1 = s.ecs.demandKind ∧ s.demandFor.2 = s.ecs.demandValue then s
    else (s.modEcs fun e => { e with demandKind := s.demandFor.1, demandValue := s.demandFor.2 }).evalRotor) = _
  split
  · next h => exact ⟨s.ecs.rotor, s.ecs.spinUp, s.ecs.stall, by rw [h.1, h.2]⟩
  · exact ⟨_, _, _, rfl⟩

/-! ### The taking of a request -/

/-- A row that serves requests changes nothing, or takes the head of the queue: the reply joins the transmit queue. -/
theorem State.takeRequest_cases (l : Link) (row : Instr) (serve : List Byte → State → State × Reply) (s : State) :
    s.takeRequest l row serve = s ∨ ∃ f rest, (s.link l).rxQueue = f :: rest ∧ (s.link l).txQueue.length < txPlaces l ∧
      rowOf l f = row ∧ s.takeRequest l row serve =
        (serve f.body (s.popped l rest)).1.modLink l (LinkState.send ((serve f.body (s.popped l rest)).2.frame f)) := by
  unfold State.takeRequest
  split
  · exact .inl rfl
  · next f hf =>
    split
    · next hr =>
      unfold State.request at hf
      split at hf
      · next hroom =>
        rcases hq : (s.link l).rxQueue with _ | ⟨g, rest⟩
        · simp [hq] at hf
        · have hg : g = f := by simpa [hq] using hf
          subst hg
          have hp : (s.modLink l fun k => { k with rxQueue := k.rxQueue.tail }) = s.popped l rest := by
            unfold State.popped
            cases l <;> simp only [State.link] at hq <;> simp [State.modLink, State.modSlink, State.modClink, hq]
          exact .inr ⟨g, rest, rfl, hroom, hr, by rw [hp]⟩
      · exact absurd hf (by simp)
    · exact .inl rfl

end Sys2Proof.Machine
end

