-- ==== Sys2Proof/WellFormed.lean ====
section
/-! DEFINITION. Well-formed commands. The operand types already hold every index and every sample in its range; what remains is the one
operand that a row's own words fix. -/

namespace Sys2Proof

/-- FRAME_RECEIVED is the arrival of a byte that completes a well-formed frame, and a byte without its stop bit never does (R163). The
part's behaviour is defined on ill-formed commands too (such a byte drops the frame); they are only not what the row says. -/
def Instr.wellFormed : Instr → Bool
  | .frameReceived _ _ stopBit => stopBit
  | _ => true

end Sys2Proof
end

