-- ==== Sys2Proof/Tests/Slice0.lean ====
section
/-! SUPPORT. The tests: the smoke test of WellFormed, one small test for each command with a result worked out by hand from the rule that
its comment names, and for each statement with hypotheses a witness that they can be met. -/

namespace Sys2Proof.Tests
open Sys2Proof Sys2Proof.Machine

/-! ### Small states -/

/-- The state a command leads to. -/
def run (c : Instr) (s : State) : State :=
  match exec c s with
  | .next t => t
  | .fault _ => s
  | .refused _ => s

/-- The part after reset, at a time. -/
def at' (now : Nat) : State := State.reset.modPos fun p => { p with time := BitVec.ofNat 32 now }

/-- The part after reset with all three stations READY, at time 1,000 and position 1,000. -/
def working : State :=
  let info : StationInfo := { avail := .ready, wait := none, acted := false }
  ((at' 1000).modLsig fun l => { l with stations := ⟨info, info, info⟩ }).modPos fun p => { p with position := 1000 }

/-- One frame stands in a link's receive queue. -/
def asking (l : Link) (kind : Nat) (body : List Byte) (s : State) : State :=
  s.modLink l fun k => { k with rxQueue := [{ kind := BitVec.ofNat 8 kind, body := body }] }

/-- A frame on a link with room in its transmit queue waits. -/
theorem asking_waits (l : Link) (kind : Nat) (body : List Byte) (s : State) (h : (s.link l).txQueue.length < txPlaces l) :
    (asking l kind body s).Waits l kind body [] := by
  constructor
  · simp [asking]
  · simpa [asking] using h

/-- The body of the reply to the one request that waits. -/
def reply (c : Instr) (l : Link) (kind : Nat) (body : List Byte) (s : State) : List Byte :=
  (((run c (asking l kind body s)).link l).txQueue.getLast?.map fun f => f.body).getD []

/-- A record of the worked example of R54: tag 47, F 600,000, T 600,100, coils 4..9, PENDING. -/
def record47 : Record :=
  { tag := 47, slot := 0, state := .pending
    flags := { overlength := false, continued := false, lateVerdict := false, overridden := false }
    span := ⟨4, 9⟩, f := 600000, closing := some { t := 600100, length := 104, signature := .nonferrous }
    peak := { excess := 300, phase := 190 }, classes := ⟨false, true, false⟩
    verdict := none, forced := none, route := none, column := none
    outcome := ⟨.none, .none, .none⟩, departure := none, disposition := none, tailGone := false }

/-- The other one: tag 48, F 600,120, coils 7..12, OPEN. -/
def record48 : Record :=
  { record47 with tag := 48, state := .opened, span := ⟨7, 12⟩, f := 600120, closing := none }

/-- The two records live, and the latest scan at 600,140. -/
def located : State :=
  (working.modPos fun p => { p with position := 600142 }).modTab fun t => { t with records := [record47, record48], tagCounter := 49 }

/-- Record 47 alone, in a state, with a route and outcomes. -/
def oneRecord (st : RecState) (route : Option RouteEntry) (outcome : ByStation Result) : State :=
  (working.modPos fun p => { p with position := 600200 }).modTab fun t =>
    { t with records := [{ record47 with state := st, route := route, outcome := outcome }], tagCounter := 48 }

/-- Routes of the tests. -/
def lifted : RouteEntry := { target := .ferrous, m := .lift, e := .none, a := .none, priority := 3 }
def spun : RouteEntry := { target := .residue, m := .none, e := .spin, a := .none, priority := 0 }
def fired : RouteEntry := { target := .eject, m := .none, e := .none, a := .eject, priority := 2 }

/-- Quiet coils. -/
def quiet : Vector Sample 32 := Vector.replicate 32 { amp := 200, phase := 0 }

/-! ### Well-formed commands -/

/-- A byte without its stop bit completes no frame. -/
theorem test_wellFormed_refuses : (Instr.frameReceived .supervisor 0xD0#8 false).wellFormed = false := by decide
theorem test_wellFormed_admits : (Instr.frameReceived .supervisor 0xD0#8 true).wellFormed = true := by decide

/-! ### Operand forms -/

/-- The COLLECT request of section 10.1: A5 01 2C CB D0. -/
theorem test_frameBytes_collect : frameBytes 0x2C#8 [] = [0xA5#8, 0x01#8, 0x2C#8, 0xCB#8, 0xD0#8] := by decide +kernel

/-- R14: 12,000 µs at T64 8,000 are 96 counts, and any time above 0 is at least one count. -/
theorem test_countsOf : countsOf 8000 12000 = 96 ∧ countsOf 1048575 1 = 1 ∧ countsOf 3200 1000000 = 20000 := ⟨rfl, rfl, rfl⟩

/-- R15: the largest result. -/
theorem test_timeOf : timeOf 1048575 8192 = 134217600 := rfl

/-! ### The encoder and position -/

/-- R2, R3: from (0,0) the pair (1,0) is a forward count, and the position adds one. -/
theorem test_encoderEdge_forward : (run (.encoderEdge true false quiet) State.reset).pos.position = 1 := by decide
/-- R2, R4: the pair (0,1) is a reverse count. -/
theorem test_encoderEdge_reverse : (run (.encoderEdge false true quiet) State.reset).pos.backlash = 1 := by decide

/-- R50, R56: at its tail point a closed record is marked; an OPEN one given the tag of a record retired before the point is left alone. -/
theorem test_tailDeparts :
    let s := located.modPos fun p => { p with position := 612100 }
    ((s.bringAbout quiet (.tail 47)).find 47).map (·.tailGone) = some true ∧ s.bringAbout quiet (.tail 48) = s := by decide +kernel

/-- R22: the worked phases under the default windows, and a ferrous window that wraps. -/
theorem test_phaseClass :
    let p := State.reset.activeParams
    phaseClass p 40 = some .ferrous ∧ phaseClass p 90 = some .stainless ∧ phaseClass p 180 = some .nonferrous ∧ phaseClass p 120 = none ∧
      phaseClass { p with fLo := 240, fHi := 10 } 240 = some .ferrous ∧ phaseClass { p with fLo := 240, fHi := 10 } 10 = some .ferrous := by
  decide

/-- R12. -/
theorem test_stopTimerExpiry :
    (run .stopTimerExpiry (working.modPos fun p => { p with stopTimer := some 1000, belt := .running })).pos.belt = .stopped := by decide

/-! ### The magnet -/

/-- One segment at a power state, its completion reached, holding record 47's lift. -/
def powered (p : Power) : State :=
  working.modMag fun m =>
    { m with segments := m.segments.set 2 { m.segments[2] with power := p, holding := [47], completion := some 1000, heat := 59990 } }

/-- R122. -/
theorem test_segmentCompletion : (run (.segmentCompletion 2) (powered .rising)).mag.segments[2].power = .on := by decide

/-- R127, R129: an account of 59,990 gains 100 - DUTY_NORM = 40 and reaches HEAT_MAX = 60,000. -/
theorem test_heatStep :
    let t := run .heatStep ((powered .on).modMag fun m => { m with heatDue := true })
    t.mag.segments[2].heat = 60030 ∧ t.mag.segments[2].cooling = true ∧ t.mag.segments[2].power = .falling ∧
      t.latched .thermal = true := by decide

/-- R128: with AUX0 at function 1 an asserted level starts the 50 ms debounce. -/
theorem test_hotInputChange :
    (run (.hotInputChange 1) (working.modLine fun l => { l with auxFn := l.auxFn.set 0 1 })).mag.hotDebounce = some 51000 := by decide
/-- R128. -/
theorem test_hotDebounceExpiry :
    (run .hotDebounceExpiry (working.modMag fun m => { m with hotInput := true, hotDebounce := some 1000 })).mag.hotState = true := by
  decide

/-- R132: the watch is 20 ms ahead. -/
theorem test_magOkChange :
    (run (.magOkChange false) (working.modInputs fun i => { i with magOk := true })).mag.okWatch = some 21000 := by decide
/-- R132, R165. -/
theorem test_magOkWatchExpiry :
    let t := run .magOkWatchExpiry (working.modMag fun m => { m with okWatch := some 1000 })
    t.avail .m = .faulted ∧ t.latched .station = true := by decide

/-! ### The rotor and the flaps -/

/-- R136: with TACH_PPR 4 a period of 5,000 µs is 3,000 rpm. -/
theorem test_tachEdge :
    (run .tachEdge ((at' 6000).modEcs fun e => { e with lastTach := some 1000 })).ecs.speed = 3000 := by decide
/-- R136. -/
theorem test_tachTimeout :
    (run .tachTimeout (working.modEcs fun e => { e with speed := 3000, tachTimeout := some 1000 })).ecs.speed = 0 := by decide
/-- R137, R140: IDLE at 800 rpm. -/
theorem test_economyTimerExpiry :
    (run .economyTimerExpiry (working.modEcs fun e =>
      { e with economy := some 1000, demandKind := .run, demandValue := 3000, speed := 3000 })).ecs.demandValue = 800 := by decide
/-- R141. -/
theorem test_spinUpWatchExpiry :
    (run .spinUpWatchExpiry (working.modEcs fun e => { e with spinUp := some 1000 })).lsig.alerts = 0x080#10 := by decide
/-- R141: ROTOR and STATION latch, and station E is FAULTED. -/
theorem test_stallWatchExpiry :
    let t := run .stallWatchExpiry (working.modEcs fun e => { e with stall := some 1000 })
    t.lsig.alerts = 0x084#10 ∧ t.avail .e = .faulted := by decide
/-- R144. -/
theorem test_flapCompletion : (run (.flapCompletion 1) (at' 150000)).ecs.flaps[1].position = .atFar := by decide
/-- R165: station E is READY once both of its inputs are asserted. -/
theorem test_ecsOkChange : (run (.ecsOkChange true true) State.reset).avail .e = .ready := by decide
/-- R146. -/
theorem test_ecsOkWatchExpiry :
    (run (.ecsOkWatchExpiry .flap) (working.modEcs fun e => { e with flapWatch := some 1000 })).avail .e = .faulted := by decide

/-! ### The nozzles -/

/-- Nozzle 9 with a pulse of record 47. -/
def nozzle (p : Pulse) : State :=
  (oneRecord .airborne (some fired) ⟨.none, .none, .acting⟩).modJet fun j => { j with pulses := j.pulses.set 9 [p] }

/-- R155. -/
theorem test_pulseOpen :
    (run (.pulseOpen 9) (nozzle { openAt := 1000, closeAt := 3000, owners := [47], isOpen := false })).jetDrv 9 = true := by decide
/-- R156: the record's last pulse closes, and its A outcome is DONE. -/
theorem test_pulseClose :
    let t := run (.pulseClose 9) (nozzle { openAt := 500, closeAt := 1000, owners := [47], isOpen := true })
    t.jet.pulses[9] = [] ∧ (t.find 47).map (·.outcome.a) = some .done := by decide
/-- R158. -/
theorem test_jetOkChange :
    (run (.jetOkChange false) (working.modInputs fun i => { i with jetOk := true })).jet.okWatch = some 21000 := by decide
/-- R158, R159: the nozzle closes, and the action is CUT(FAULT). -/
theorem test_jetOkWatchExpiry :
    let t := run .jetOkWatchExpiry ((nozzle { openAt := 500, closeAt := 3000, owners := [47], isOpen := true }).modJet fun j =>
      { j with okWatch := some 1000 })
    t.jet.pulses[9] = [] ∧ (t.find 47).map (·.outcome.a) = some (.cut .fault) := by decide

/-! ### The line signals -/

/-- R165. -/
theorem test_censusWaitExpiry : (run (.censusWaitExpiry .a) (at' 500000)).avail .a = .absent := by decide
/-- R167. -/
theorem test_estopInputChange : (run (.estopInputChange true) working).lsig.estopFilter = some 1100 := by decide
/-- R167: every station is OFFLINE. -/
theorem test_estopAsserted :
    let t := run .estopAsserted ((working.modLsig fun l => { l with estopFilter := some 1000 }).modInputs fun i =>
      { i with estop := true })
    t.lsig.estop = true ∧ t.avail .m = .offline ∧ t.avail .e = .offline ∧ t.avail .a = .offline := by decide
/-- R167. -/
theorem test_estopReleased :
    (run .estopReleased (working.modLsig fun l => { l with estop := true, estopFilter := some 1000 })).lsig.estop = false := by decide
/-- R169. -/
theorem test_switchMarkEnd :
    (run .switchMarkEnd (working.modLsig fun l => { l with switchMark := some 1000 })).lsig.switchMark = none := by decide
/-- R172: an ESTOP held asserted through reset is taken 100 µs later. -/
theorem test_hardReset : (run (.hardReset { Inputs.low with estop := true }) working).lsig.estopFilter = some 100 := by decide

/-! ### The links -/

/-- The receiver that has taken A5 01 2C CB: the next byte, D0, completes the COLLECT request. -/
def almost : State :=
  working.modSlink fun k => { k with rx := { phase := .check, len := 1, got := [0x2C#8], crcHigh := some 0xCB#8, lastByte := 1000 } }

/-- R163. -/
theorem test_frameReceived :
    (run (.frameReceived .supervisor 0xD0#8 true) almost).slink.rxQueue = [{ kind := 0x2C#8, body := [] }] := by decide +kernel
/-- R163, R168: another byte is a CRC mismatch, cause code 2 on the supervisor link. -/
theorem test_frameDropped :
    let t := run (.frameDropped .supervisor 0xD1#8 true) almost
    t.slink.rxQueue = [] ∧ causeByte t.lsig.linkCause = 2#8 := by decide +kernel
/-- R163: more than 2 ms after the latest byte, the frame is dropped with cause GAP (3). -/
theorem test_frameGapTimeout :
    causeByte (run (.frameGapTimeout .supervisor) (almost.modPos fun p => { p with time := 3001 })).lsig.linkCause = 3#8 ∧
      (run (.frameGapTimeout .supervisor) (almost.modPos fun p => { p with time := 3000 })).lsig.linkCause = none := by decide
/-- R163: an A5h in HUNT is a SYNC. -/
theorem test_receiverByteTaken :
    (run (.receiverByteTaken .classifier 0xA5#8 true) working).clink.rx.phase = .length := by decide
/-- R67. -/
theorem test_frameSent :
    (run (.frameSent .classifier) (working.modClink fun k =>
      { k with txQueue := [{ kind := 0xC0#8, body := [], rateAfter := none }] })).clink.txQueue = [] := by decide
/-- R66: BAD_KIND, status code 2, to VERDICT on the supervisor link (R164). -/
theorem test_badKindRequest : reply (.badKindRequest .supervisor) .supervisor 0x10 [1, 0, 0, 0] working = [2#8] := by decide

/-! ### The classifier's requests -/

/-- R71: a confidence of 101 is stored as 100 with CLAMPED (1); the record is PENDING (1), the amendment count 1. -/
theorem test_verdict : reply .verdict .classifier 0x10 [47, 0, 7, 101] located = [1#8, 47#8, 0#8, 1#8, 1#8] := by decide
/-- R70: TOO_LATE (11) for a ROUTED record (2), and LATE_VERDICT set. -/
theorem test_verdict_late :
    reply .verdict .classifier 0x10 [47, 0, 7, 90] (oneRecord .routed (some spun) ⟨.none, .placed, .none⟩) =
      [11#8, 47#8, 0#8, 2#8, 0#8] := by decide
/-- R54, R72: position 600,100 (09 28 24h) on coil 8 is record 47, and 600,110 record 48, which is OPEN. -/
theorem test_verdictAt :
    reply .verdictAt .classifier 0x11 [0x24, 0x28, 0x09, 0, 8, 7, 90] located = [0#8, 47#8, 0#8, 1#8, 1#8] ∧
      reply .verdictAt .classifier 0x11 [0x2E, 0x28, 0x09, 0, 8, 7, 90] located = [0#8, 48#8, 0#8, 0#8, 1#8] := by decide
/-- R54, R73: the worked table. -/
theorem test_locate :
    (located.locate 600100 8).map (·.tag) = some 47 ∧ (located.locate 600110 8).map (·.tag) = some 48 ∧
      (located.locate 600110 5).map (·.tag) = some 47 ∧ (located.locate 600150 8).map (·.tag) = some 48 ∧
      (located.locate 600200 8).map (·.tag) = none := by decide
/-- R73: NO_SUCH (10), with no record to report. -/
theorem test_locate_noSuch :
    reply .locate .classifier 0x12 [0x88, 0x28, 0x09, 0, 8] located = [10#8, 0#8, 0#8, 255#8, 0#8, 0#8, 0#8, 0#8] := by decide

/-! ### Parameters -/

/-- R96, section 5.7: D_DEC is 2,400 by default. -/
theorem test_paramRead : reply .paramRead .supervisor 0x20 [0x10, 0, 0] working = 0#8 :: paramBody 0x10 0 2400 := by decide
/-- R97: LOCATE_TOL above its range is held at 255 with CLAMPED. -/
theorem test_paramWrite : reply .paramWrite .supervisor 0x21 (paramBody 0x017 0 300) working = 1#8 :: paramBody 0x017 0 255 := by decide
/-- R96: a measured number is READ_ONLY (5). -/
theorem test_paramWrite_readOnly : reply .paramWrite .supervisor 0x21 (paramBody 0x200 0 1) working = 5#8 :: paramBody 0x200 0 0 := by
  decide
/-- R13: the latest advance at time 0 plus 50 ms. -/
theorem test_stopMsWrite :
    (run .stopMsWrite (asking .supervisor 0x21 (paramBody 1 0 50) (working.modPos fun p => { p with stopTimer := some 250000 }))).pos.stopTimer =
      some 50000 := by decide
/-- R12, R13: T64 8,000 reads RUNNING once T64_RUN is 8,000. -/
theorem test_t64RunWrite :
    (run .t64RunWrite (asking .supervisor 0x21 (paramBody 2 0 8000) (working.modPos fun p =>
      { p with t64 := 8000, belt := .creeping }))).pos.belt = .running := by decide
/-- R4, R97: BACKLASH_MAX is held at 16 or above. -/
theorem test_backlashMaxWrite :
    reply .backlashMaxWrite .supervisor 0x21 (paramBody 3 0 15) working = 1#8 :: paramBody 3 0 16 := by decide
/-- R99: BUSY (6) while a record is live, and the held value. -/
theorem test_geometryWrite :
    reply .geometryWrite .supervisor 0x21 (paramBody 0x10 0 2000) located = 6#8 :: paramBody 0x10 0 2400 ∧
      reply .geometryWrite .supervisor 0x21 (paramBody 0x10 0 1663) working = 7#8 :: paramBody 0x10 0 2400 ∧
      reply .geometryWrite .supervisor 0x21 (paramBody 0x10 0 1664) working = 0#8 :: paramBody 0x10 0 1664 := by decide
/-- R131: an account above the new HEAT_MAX + 94 is lowered to it, and its segment falls, COOLING. -/
theorem test_heatMaxWrite :
    let t := run .heatMaxWrite (asking .supervisor 0x21 (paramBody 0x24 0 1000) (powered .on))
    t.mag.segments[2].heat = 1094 ∧ t.mag.segments[2].cooling = true ∧ t.mag.segments[2].power = .falling := by decide
/-- R98: CONFLICT (7) below the run speed of the ACTIVE slot, 3,000 rpm. -/
theorem test_rotorMaxRpmWrite :
    reply .rotorMaxRpmWrite .supervisor 0x21 (paramBody 0x31 0 2999) working = 7#8 :: paramBody 0x31 0 4000 := by decide
/-- R138: at 3,000 rpm demanded, 2,850 rpm lies within a band of 5 %, and not within one of 4 %. -/
theorem test_rotorBandWrite :
    let s := working.modEcs fun e => { e with demandKind := .run, demandValue := 3000, speed := 2850, rotor := .rampingUp }
    (run .rotorBandWrite (asking .supervisor 0x21 (paramBody 0x35 0 5) s)).ecs.rotor = .run ∧
      (run .rotorBandWrite (asking .supervisor 0x21 (paramBody 0x35 0 4) s)).ecs.rotor = .rampingUp := by decide
/-- R100: the new rate waits for the reply. -/
theorem test_slinkRateWrite :
    let t := run .slinkRateWrite (asking .supervisor 0x21 (paramBody 0x61 0 0) working)
    t.slink.txRate = 2 ∧ (run (.frameSent .supervisor) t).slink.txRate = 0 := by decide
/-- R100: with no frame at hand the rate applies at once. -/
theorem test_clinkRateWrite :
    (run .clinkRateWrite (asking .supervisor 0x21 (paramBody 0x60 0 1) working)).clink.rxRate = 1 := by decide
/-- R168: members beyond the ten are dropped with CLAMPED. -/
theorem test_alertMaskWrite :
    reply .alertMaskWrite .supervisor 0x21 (paramBody 0x78 0 0x401) working = 1#8 :: paramBody 0x78 0 1 := by decide
/-- R169: AUX3 given function 3 shows SWITCH_MARK. -/
theorem test_auxFunctionWrite :
    (run .auxFunctionWrite (asking .supervisor 0x21 (paramBody 0x73 0 3) working)).auxDrive 3 = some false := by decide

/-! ### The recipe store -/

/-- R76: an entry of a FREE slot is the default one, RESIDUE with no action (code 3). -/
theorem test_routeRead : reply .routeRead .supervisor 0x22 [1, 4, 15] working = [0#8, 1#8, 4#8, 15#8, 3#8, 0#8] := by decide
/-- R75: FERROUS with a LIFT at priority 9 (9 × 512 + 4) is written with priority 7, and CLAMPED. -/
theorem test_routeWrite :
    reply .routeWrite .supervisor 0x23 ([1, 0, 2] ++ le 2 4612) working = [1#8, 1#8, 0#8, 2#8] ++ le 2 3588 := by decide
/-- R88. -/
theorem test_recipeCopy : (run .recipeCopy (asking .supervisor 0x24 [0, 0, 2, 0, 0, 0, 0] working)).rcp.slots[2].state = .edit := by decide
/-- R89: CONFLICT (7) to arm a FREE slot. -/
theorem test_recipeArm : (reply .recipeArm .supervisor 0x24 [1, 1, 0, 0, 0, 0, 0] working).head? = some 7#8 := by decide

/-- Slot 1 ARMED, and perhaps a switch pending. -/
def armed (psw : Option W32) : State :=
  working.modRcp fun r => { r with slots := r.slots.set 1 { r.slots[1] with state := .armed }, psw := psw }

/-- R89. -/
theorem test_recipeDisarm :
    let t := run .recipeDisarm (asking .supervisor 0x24 [2, 1, 0, 0, 0, 0, 0] (armed (some 2000)))
    t.rcp.slots[1].state = .edit ∧ t.rcp.psw = none := by decide
/-- R90. -/
theorem test_recipeFree :
    (run .recipeFree (asking .supervisor 0x24 [3, 1, 0, 0, 0, 0, 0] (armed none))).rcp.slots[1].state = .free ∧
      (reply .recipeFree .supervisor 0x24 [3, 1, 0, 0, 0, 0, 0] (armed (some 2000))).head? = some 6#8 := by decide
/-- R91, R92: an offset of 5 from position 1,000; an offset of 0 switches at once. -/
theorem test_recipeSwitch :
    (run .recipeSwitch (asking .supervisor 0x24 [4, 0, 0, 5, 0, 0, 0] (armed none))).rcp.psw = some 1005 ∧
      (run .recipeSwitch (asking .supervisor 0x24 [4, 0, 0, 0, 0, 0, 0] (armed none))).rcp.slots[1].state = .active := by decide
/-- R94, section 10.7: slot states ACTIVE (3), FREE, FREE with no records, no switch pending, no slot ARMED (255). -/
theorem test_recipeStatus :
    reply .recipeStatus .supervisor 0x24 [5, 0, 0, 0, 0, 0, 0] working =
      [0#8, 3#8, 0#8, 0#8, 0#8, 0#8, 0#8, 0#8, 0#8, 0#8, 255#8, 0#8, 0#8, 0#8, 0#8, 0#8] := by decide

/-! ### The table and the records -/

/-- R53, section 10.7: the first bytes of record 47: OK, tag, slot 0 with state PENDING, no flag, presence of T alone, coils 4..9. -/
theorem test_recordRead :
    (reply .recordRead .supervisor 0x28 [47, 0] located).take 8 = [0#8, 47#8, 0#8, 4#8, 0#8, 1#8, 4#8, 9#8] := by decide
/-- R55: position 600,150 on coil 8 is record 48. -/
theorem test_recordFind : (reply .recordFind .supervisor 0x29 [0x56, 0x28, 0x09, 0, 8] located).take 2 = [0#8, 48#8] := by decide
/-- R80: FERROUS with a LIFT is forced on the PENDING record, and the reply carries the state. -/
theorem test_recordOverride :
    reply .recordOverride .supervisor 0x2A [47, 0, 4, 0] located = [0#8, 47#8, 0#8, 1#8] ∧
      ((run .recordOverride (asking .supervisor 0x2A [47, 0, 4, 0] located)).find 47).map (·.forced.isSome) = some true := by decide
/-- R80: IN_ACTION (9) once a claim has begun. -/
theorem test_recordOverride_inAction :
    reply .recordOverride .supervisor 0x2A [47, 0, 4, 0] (oneRecord .routed (some lifted) ⟨.acting, .none, .none⟩) =
      [9#8, 47#8, 0#8, 2#8] := by decide
/-- R58. -/
theorem test_recordCancel :
    let t := run .recordCancel (asking .supervisor 0x2B [47, 0] located)
    (t.find 47).isNone = true ∧ t.tab.totals.cancelled = 1 := by decide
/-- R52. -/
theorem test_collect :
    let t := run .collect (asking .supervisor 0x2C [] ((oneRecord .settled (some spun) ⟨.none, .done, .none⟩).modTab fun b =>
      { b with queue := [47] }))
    t.tab.records = [] ∧ t.tab.queue = [] := by decide
/-- R64: one OPEN, one PENDING, 254 places free. -/
theorem test_tableSummary :
    reply .tableSummary .supervisor 0x2D [] located =
      [0#8, 1#8, 0#8, 1#8, 0#8, 0#8, 0#8, 0#8, 0#8, 0#8, 0#8, 254#8, 0#8, 0#8, 0#8, 0#8, 0#8] := by decide
/-- R63. -/
theorem test_totalsRead :
    reply .totalsRead .supervisor 0x30 [] (working.modTotals fun t => { t with eject := 258 }) =
      0#8 :: (List.replicate 8 0#8 ++ [2#8, 1#8, 0#8, 0#8] ++ List.replicate 16 0#8) := by decide
/-- R63. -/
theorem test_totalsClear :
    (run .totalsClear (asking .supervisor 0x31 [] (working.modTotals fun t => { t with eject := 258 }))).tab.totals.eject = 0 := by decide

/-! ### Stations, status, PURGE and RESTART -/

/-- R166: station M OFFLINE (3), the others READY (2). -/
theorem test_stationSetOffline : reply .stationSetOffline .supervisor 0x34 [0, 0] working = [0#8, 3#8, 2#8, 2#8] := by decide
/-- R166: ONLINE is BUSY (6) under E-stop. -/
theorem test_stationSetOnline :
    reply .stationSetOnline .supervisor 0x34 [2, 1] (working.modLsig fun l => { l with estop := true }) = [6#8, 2#8, 2#8, 2#8] := by decide
/-- R166. -/
theorem test_stationStatus :
    reply .stationStatus .supervisor 0x35 [] (working.modStation .e fun i => { i with acted := true }) =
      [0#8, 2#8, 0#8, 2#8, 1#8, 2#8, 0#8] := by decide
/-- R166: with no OK input asserted the stations are INTERROGATING (1). -/
theorem test_census : reply .census .supervisor 0x36 [] working = [0#8, 1#8, 1#8, 1#8] := by decide
/-- R170: the first bytes of STATUS: OK and the position 1,000 (E8 03 00 00). -/
theorem test_status : (reply .status .supervisor 0x38 [] working).take 5 = [0#8, 0xE8#8, 0x03#8, 0#8, 0#8] := by decide
/-- R168: of LINK and COIL, LINK is cleared with its cause. -/
theorem test_alertClear :
    let s := working.modLsig fun l => { l with alerts := 0x042#10, linkCause := some { cause := .crc, link := .classifier } }
    reply .alertClear .supervisor 0x39 [2, 0] s = [0#8, 0x40#8, 0#8] ∧
      (run .alertClear (asking .supervisor 0x39 [2, 0] s)).lsig.linkCause = none := by decide
/-- R59: both records are counted CANCELLED, and the tag counter is kept. -/
theorem test_purge :
    let t := run .purge (asking .supervisor 0x3D [] located)
    t.tab.totals.cancelled = 2 ∧ t.tab.tagCounter = 49 := by decide
/-- R18, R60: the position is 0, the tag counter 1, and the time runs on. -/
theorem test_restart :
    let t := run .restart (asking .supervisor 0x3C [] located)
    t.pos.position = 0 ∧ t.tab.tagCounter = 1 ∧ t.pos.time = 1000 := by decide

/-! ### Witnesses: the queue and the encoder

Each theorem names the statement whose hypotheses it meets, clause by clause, where it can at the boundary of a clause's range. -/

theorem witness_IdleStepTakesADueEventOrTicks :
    State.reset.pending = [] ∧ State.reset.internal = [] ∧
      (let s := State.reset.modMag fun m => { m with heatDue := true }
       s.pending = [] ∧ s.internal ≠ []) := by decide +kernel

theorem witness_CountersMoveOnlyForward :
    (∃ t, exec (.hardReset Inputs.low) working = .next t) ∧ (∃ t, exec .restart working = .next t) ∧
      ∃ t, exec (.encoderEdge true false quiet) working = .next t := ⟨⟨_, rfl⟩, ⟨_, rfl⟩, ⟨_, rfl⟩⟩

/-- The latest accepted edge `ago` microseconds before the present, with a backlash count. -/
def edged (ago backlash : Nat) : State :=
  working.modPos fun p => { p with lastEdge := some (p.time - BitVec.ofNat 32 ago), backlash := backlash }

theorem edged_accepted (backlash : Nat) : (edged 2 backlash).EdgeAccepted := by
  intro e h
  injection h with h
  subst h
  show 2 ≤ (1000#32 - (1000#32 - 2#32)).toNat
  decide

theorem witness_EdgesThatDoNotAdvance :
    ((edged 1 0).pos.lastEdge = some 999 ∧ ((edged 1 0).now - 999).toNat < (edged 1 0).line.encFilter) ∧
      (edged 2 0).EdgeAccepted ∧ (edged 2 1023).EdgeAccepted ∧ (edged 2 1024).EdgeAccepted ∧ (edged 2 1).EdgeAccepted ∧
      (false = (edged 2 0).pos.accA ∧ false = (edged 2 0).pos.accB) ∧ (true ≠ (edged 2 0).pos.accA ∧ true ≠ (edged 2 0).pos.accB) ∧
      ((edged 2 1023).Reverse false true ∧ (edged 2 1023).pos.backlash < (edged 2 1023).line.backlashMax) ∧
      ((edged 2 1024).Reverse false true ∧ (edged 2 1024).line.backlashMax ≤ (edged 2 1024).pos.backlash) ∧
      ((edged 2 1).Forward true false ∧ 0 < (edged 2 1).pos.backlash) :=
  ⟨by decide, edged_accepted _, edged_accepted _, edged_accepted _, edged_accepted _, by decide, by decide, ⟨⟨rfl, rfl⟩, by decide⟩,
    ⟨⟨rfl, rfl⟩, by decide⟩, ⟨rfl, rfl⟩, by decide⟩

/-- About to advance, with a group count and a number of completions. -/
def grouped (count seen : Nat) : State := (edged 2 0).modPos fun p => { p with groupCount := count, completionsSeen := seen }

theorem grouped_accepted (count seen : Nat) : (grouped count seen).EdgeAccepted := edged_accepted 0

theorem witness_AdvanceMovesThePosition :
    ((grouped 62 0).EdgeAccepted ∧ (grouped 62 0).Forward true false ∧ (grouped 62 0).pos.backlash = 0 ∧
      (grouped 62 0).pos.groupCount ≤ 63 ∧ (grouped 62 0).pos.groupCount < 63) ∧
      ((grouped 63 0).EdgeAccepted ∧ (grouped 63 0).Forward true false ∧ (grouped 63 0).pos.groupCount = 63 ∧
        (grouped 63 0).pos.completionsSeen = 0) ∧
      ((grouped 63 1).EdgeAccepted ∧ (grouped 63 1).Forward true false ∧ (grouped 63 1).pos.groupCount = 63 ∧
        0 < (grouped 63 1).pos.completionsSeen) :=
  ⟨⟨grouped_accepted _ _, ⟨rfl, rfl⟩, by decide⟩, ⟨grouped_accepted _ _, ⟨rfl, rfl⟩, by decide⟩, grouped_accepted _ _, ⟨rfl, rfl⟩,
    by decide⟩

/-- About to advance from a position, the first coils of every kind that a scan tells apart. -/
def scanning (position settling : Nat) : State :=
  ((edged 2 0).modPos fun p => { p with position := BitVec.ofNat 32 position }).modScan fun b =>
    { coils := (b.coils.set 0 { k := 51200, active := false, stuck := 1000, faulted := true }).set 1
        { k := 51200, active := false, stuck := 999, faulted := false }
      settling := settling }

theorem scanning_accepted (position settling : Nat) : (scanning position settling).EdgeAccepted := edged_accepted 0

theorem witness_ScanJudgesEachCoil :
    ((scanning 1000 64).EdgeAccepted ∧ (scanning 1000 64).Forward true false ∧ (scanning 1000 64).pos.backlash = 0 ∧
      (scanning 1000 64).rcp.psw ≠ some ((scanning 1000 64).here + 1) ∧ ((scanning 1000 64).here + 1).toNat % 4 ≠ 0 ∧
      ∃ t, exec (.encoderEdge true false quiet) (scanning 1000 64) = .next t) ∧
      (((scanning 1003 64).here + 1).toNat % 4 = 0 ∧ (scanning 1003 64).EdgeAccepted ∧ (scanning 1003 64).Forward true false ∧
        ∃ t, exec (.encoderEdge true false quiet) (scanning 1003 64) = .next t) ∧
      (scanning 1003 64).scan.coils[0].faulted = true ∧
      ((scanning 1003 64).scan.coils[1].faulted = false ∧ 1000 ≤ (scanning 1003 64).scan.coils[1].stuck + 1) ∧
      (scanning 1003 64).scan.coils[2].faulted = false ∧ (scanning 1003 64).scan.coils[2].stuck < 1000 ∧
      (scanning 1003 0).scan.settling = 0 ∧ (0 < (scanning 1003 63).scan.settling ∧ (scanning 1003 63).scan.settling < 64) ∧
      64 ≤ (scanning 1003 64).scan.settling :=
  ⟨⟨scanning_accepted _ _, ⟨rfl, rfl⟩, by decide, by decide, by decide, _, rfl⟩,
    ⟨by decide, scanning_accepted _ _, ⟨rfl, rfl⟩, _, rfl⟩, by decide⟩

theorem witness_PhaseClassIsTheFirstWindowsClass :
    let p := working.activeParams
    (20 ≤ 255 ∧ p.fLo ≤ p.fHi ∧ p.fLo ≤ 20 ∧ 20 ≤ p.fHi) ∧ (¬ 71 ≤ p.fHi ∧ p.sLo ≤ 71 ∧ 71 ≤ p.sHi) ∧
      (¬ 230 ≤ p.fHi ∧ ¬ 230 ≤ p.sHi ∧ p.nLo ≤ 230 ∧ 230 ≤ p.nHi) ∧ (255 ≤ 255 ∧ ¬ 255 ≤ p.fHi ∧ ¬ 255 ≤ p.sHi ∧ ¬ 255 ≤ p.nHi) ∧
      (let q := { p with fLo := 240, fHi := 10 }
       q.fHi < q.fLo ∧ 240 ≤ 240 ∧ 10 ≤ q.fHi) := by decide

/-! ### Witnesses: the segmentation -/

/-- A tracker of a kind, with a span and a front, last seen at position 600,136. -/
def tracked (kind : TrackerKind) (span : Span) (f : W32) (gap : Nat) : Live :=
  { tracker := ⟨kind, span, f, 600136, gap, ⟨300, 190⟩, ⟨false, true, false⟩, false⟩, took := false }

/-- All 256 table slots are in use, with a settled queue. -/
def full (queue : List Nat) : State :=
  working.modTab fun t =>
    { t with
      records := (List.range 256).map fun k =>
        { record47 with tag := k + 1, state := if queue.contains (k + 1) then .settled else .pending }
      queue := queue }

theorem full_find (queue : List Nat) : ∃ r, (full queue).find 1 = some r := ⟨_, rfl⟩

theorem witness_RunsOpenTrackersOrAreTaken :
    let one (s : State) : Prop := (∃ k : Fin 3, s.rcp.slots[k].state = .active ∧ ∀ j : Fin 3, s.rcp.slots[j].state = .active → j = k) ∧
      s.tab.tags.Nodup ∧ s.tab.records.length ≤ 256 ∧ 1 ≤ s.tab.tagCounter ∧ s.tab.tagCounter ≤ 65535
    ((0 ≤ 31 ∧ 31 < (List.replicate 32 (⟨true, 300, 190, some .nonferrous⟩ : Reading)).length)) ∧
      (one located ∧ located.tab.records.length < 256 ∧
        (∃ r, located.find 48 = some r) ∧ ¬ ((0 : Nat) ≤ 12 + 1 ∧ 7 ≤ 5 + 1) ∧ ((0 : Nat) ≤ 12 + 1 ∧ 7 ≤ 6 + 1)) ∧
      (one (full [1]) ∧ (full [1]).tab.records.length = 256 ∧ (full [1]).tab.queue = 1 :: [] ∧ ∃ r, (full [1]).find 1 = some r) ∧
      (one (full []) ∧ (full []).tab.records.length = 256 ∧ (full []).tab.queue = []) :=
  ⟨by decide, ⟨⟨⟨0, by decide⟩, by decide⟩, by decide, ⟨_, rfl⟩, by decide, by decide⟩,
    ⟨⟨⟨0, by decide⟩, by decide +kernel⟩, by decide +kernel, rfl, full_find _⟩, ⟨⟨0, by decide⟩, by decide +kernel⟩, by decide +kernel, rfl⟩

theorem witness_MetTrackersMergeIntoTheSurvivor :
    let x := tracked (.bound 48) ⟨7, 12⟩ 600120 1
    let y := tracked (.bound 47) ⟨4, 6⟩ 600000 2
    let z := tracked (.shadow true) ⟨14, 15⟩ 600000 0
    (∀ a ∈ [x, y, z], (located.here - a.tracker.f).toNat < 2 ^ 30 ∧ (located.here - a.tracker.lastSeen).toNat < 2 ^ 30) ∧
      ([x, y, z].Pairwise fun a b => a.tracker.isBound = b.tracker.isBound → a.tracker.f = b.tracker.f →
        a.tracker.span.first ≠ b.tracker.span.first) ∧
      ([x, y, z].Pairwise fun a b => ∀ tag, a.tracker.kind = .bound tag → b.tracker.kind ≠ .bound tag) ∧
      (∀ a ∈ [x, y, z], ∀ tag, a.tracker.kind = .bound tag → ∃ r, located.find tag = some r) ∧
      [x, y].Perm [y, x] ∧ ([x, y].filter fun a => a.tracker.span.near ⟨6, 7⟩) = x :: [y] ∧
      ∀ a ∈ [x, y, z], a.tracker.span.first ≤ a.tracker.span.last := by
  refine ⟨by decide, by decide, ?_, ?_, by decide, by decide, by decide⟩
  · simp [tracked]
  · intro a ha tag hk
    simp only [List.mem_cons, List.not_mem_nil, or_false] at ha
    rcases ha with rfl | rfl | rfl <;> simp only [tracked, TrackerKind.bound.injEq, reduceCtorEq] at hk <;> subst hk <;> exact ⟨_, rfl⟩

/-- Coils 7..12 closing at 600,142 with GAP_SCANS 3, and reaching L_MAX 1,600 at F 598,546. -/
theorem witness_TrackersCloseAtTheEndOfAScan :
    let here := located.here
    let lMax := located.line.lMax
    1 ≤ 3 ∧ ¬ 3 ≤ (tracked (.bound 48) ⟨7, 12⟩ 600120 1).tracker.gap + 1 ∧ ¬ lMax ≤ (here - 600120 + 4).toNat ∧
      3 ≤ (tracked (.bound 48) ⟨7, 12⟩ 600120 2).tracker.gap + 1 ∧ lMax ≤ (here - 598546 + 4).toNat ∧ ¬ lMax ≤ (here - 598547 + 4).toNat ∧
      (located.find 48).map (·.state) = some .opened ∧ located.line.sightEn = 1 ∧ located.clink.txQueue.length < 32 ∧
      32 ≤ (located.modClink fun k => { k with txQueue := List.replicate 32 ⟨0xC0#8, [], none⟩ }).clink.txQueue.length := by decide

/-! ### Witnesses: times reached -/

/-- Every watched time is reached at this very microsecond. -/
def allDue : State :=
  let now : Option W32 := some 1000
  ((((working.modPos fun p => { p with stopTimer := now }).modMag fun m =>
    { m with
      segments := (m.segments.set 0 { m.segments[0] with power := .rising, completion := now }).set 7
        { m.segments[7] with power := .falling, completion := now }
      hotDebounce := now, okWatch := now, heatDue := true }).modEcs fun e =>
    { e with
      flaps := (e.flaps.set 0 { e.flaps[0] with position := .movingNear, completion := now }).set 3
        { e.flaps[3] with position := .movingFar, completion := now }
      tachTimeout := now, economy := now, spinUp := now, stall := now, driveWatch := now, flapWatch := now }).modJet fun j =>
    { j with okWatch := now }).modLsig fun l => { l with estopFilter := now, switchMark := now }

theorem witness_WatchedTimesActWhenReached_motion :
    due allDue.now allDue.pos.stopTimer = true ∧
      (due allDue.now allDue.mag.segments[0].completion = true ∧ allDue.mag.segments[0].power = .rising) ∧
      (due allDue.now allDue.mag.segments[7].completion = true ∧ allDue.mag.segments[7].power = .falling) ∧
      (due allDue.now allDue.ecs.flaps[0].completion = true ∧ allDue.ecs.flaps[0].position = .movingNear) ∧
      (due allDue.now allDue.ecs.flaps[3].completion = true ∧ allDue.ecs.flaps[3].position = .movingFar) ∧
      due allDue.now allDue.ecs.spinUp = true := by decide

theorem witness_WatchedTimesActWhenReached_signals :
    ((at' 500000).avail .m = .interrogating ∧ due (at' 500000).now ((at' 500000).lsig.stations.get .m).wait = true) ∧
      true ≠ (at' 0).inputs.estop ∧
      (due (at' 100).now (some 100) = true ∧
        (let s := (at' 100).modLsig fun l => { l with estopFilter := some 100 }
         due s.now s.lsig.estopFilter = true ∧ s.inputs.estop = false ∧ s.avail .e ≠ .ready)) ∧
      working.avail .m ≠ .interrogating ∧ due allDue.now allDue.lsig.switchMark = true := by decide

/-- Station E READY at a demand of IDLE 800, with the reset geometry and a band of 776..824. -/
def turning (speed : Nat) (rotor : RotorState) (spinUp stall : Option W32) : State :=
  working.modEcs fun e =>
    { e with demandKind := .idle, demandValue := 800, speed := speed, rotor := rotor, spinUp := spinUp, stall := stall }

theorem turning_need (speed : Nat) (rotor : RotorState) (spinUp stall : Option W32) (tag : Nat) :
    tag ∈ (turning speed rotor spinUp stall).ecs.need ↔
      ∃ r ∈ (turning speed rotor spinUp stall).tab.records, r.tag = tag ∧ r.Needs :=
  ⟨fun h => absurd h List.not_mem_nil, fun ⟨_, h, _⟩ => absurd h List.not_mem_nil⟩

/-- A rotor at its idle speed, and one at rest whose two watches run. -/
theorem turning_idle : (turning 800 .idle none none).RotorSound :=
  ⟨turning_need _ _ _ _, ⟨by decide, by decide, by decide⟩, by unfold RotorReads; decide, by decide, by decide, by decide⟩

theorem turning_starts : (turning 0 .rampingUp (some 5000) (some 1000)).RotorSound :=
  ⟨turning_need _ _ _ _, ⟨by decide, by decide, by decide⟩, by unfold RotorReads; decide, by decide, by decide, by decide⟩

theorem witness_HeatStepKeepsTheAccountsByTheHotState_step :
    (let s := (powered .on).modMag fun m => { m with heatDue := true }
     s.mag.heatDue = true ∧ s.mag.segments[2].driven = true ∧ s.mag.segments[0].driven = false ∧
      s.line.heatMax ≤ s.mag.segments[2].heat + (100 - s.line.dutyNorm)) ∧
      (let s := (powered .on).modMag fun m =>
        { m with heatDue := true, segments := m.segments.set 2 { m.segments[2] with heat := 59959 } }
       s.mag.heatDue = true ∧ s.mag.segments[2].driven = true ∧
        s.mag.segments[2].heat + (100 - s.line.dutyNorm) < s.line.heatMax) ∧
      (let s := ((powered .on).modArb fun a =>
        { a with segments := a.segments.set 2 [⟨47, .lift, 3, 500, some 2000, 3000, true⟩] }).modTab fun b =>
          { b with records := [{ record47 with state := .routed, route := some lifted, outcome := ⟨.acting, .none, .none⟩ }] }
       47 ∈ s.liftsOn 2 ∧ (s.find 47).map (fun r => r.outcome.m.inProgress) = some true) := by decide

theorem witness_HeatStepKeepsTheAccountsByTheHotState_input :
    ((false = true ↔ ∃ k : Fin 8, working.line.auxFn[k] = 1 ∧ (255 : BitVec 8).getLsbD k = true) ∧ false = working.mag.hotInput) ∧
      (let s := working.modLine fun l => { l with auxFn := l.auxFn.set 7 1 }
       (true = true ↔ ∃ k : Fin 8, s.line.auxFn[k] = 1 ∧ (128 : BitVec 8).getLsbD k = true) ∧ true ≠ s.mag.hotInput) ∧
      due allDue.now allDue.mag.hotDebounce = true := by decide

theorem witness_OkInputsDriveWatchAndCensus :
    (true ≠ working.inputs.magOk ∧ working.avail .m = .ready) ∧ (true ≠ State.reset.inputs.magOk ∧ State.reset.avail .m = .interrogating) ∧
      (true ≠ working.inputs.jetOk ∧ working.avail .a = .ready) ∧ (true ≠ State.reset.inputs.jetOk ∧ State.reset.avail .a = .interrogating) ∧
      working.avail .e = .ready ∧
      (State.reset.avail .e = .interrogating ∧ State.reset.lsig.estop = false ∧ State.reset.inputs.driveOk = false) := by decide

/-- A station in every state but READY, its input deasserted, and an INTERROGATING one whose input is asserted. -/
theorem witness_OkInputsDriveWatchAndCensus_dashes :
    (∀ avail ∈ [Avail.absent, .offline, .faulted], ∀ st : Station,
      let s := working.modStation st fun i => { i with avail := avail }
      true ≠ s.inputs.magOk ∧ true ≠ s.inputs.jetOk ∧ s.avail st ≠ .ready ∧ s.avail st ≠ .interrogating) ∧
      (let s := State.reset.modInputs fun i => { i with magOk := true, jetOk := true }
       false ≠ s.inputs.magOk ∧ false ≠ s.inputs.jetOk ∧ ∀ st, s.avail st ≠ .ready) ∧
      State.reset.RotorSound :=
  ⟨by intro avail h st; revert avail; cases st <;> decide, ⟨by decide, by decide, fun st => by cases st <;> decide⟩,
    ⟨fun _ => ⟨fun h => absurd h List.not_mem_nil, fun ⟨_, h, _⟩ => absurd h List.not_mem_nil⟩,
      ⟨by decide, by decide, by decide⟩, by unfold RotorReads; decide, by decide, by decide, by decide⟩⟩

theorem witness_FaultWatchMakesAReadyStationFaulted :
    (allDue.faultDue .magOkWatchExpiry = some .m ∧ allDue.avail .m = .ready) ∧
      (allDue.faultDue (.ecsOkWatchExpiry .drive) = some .e ∧ allDue.faultDue (.ecsOkWatchExpiry .flap) = some .e ∧
        allDue.faultDue .stallWatchExpiry = some .e ∧ allDue.avail .e = .ready) ∧
      (allDue.faultDue .jetOkWatchExpiry = some .a ∧ allDue.avail .a = .ready) := by decide

/-- The same watches off READY; and the stall watch and a fault watch over a rotor whose state hangs together. -/
theorem witness_FaultWatchMakesAReadyStationFaulted_rotor :
    (let s := allDue.modLsig fun l =>
        { l with stations := ⟨⟨.offline, none, false⟩, ⟨.absent, none, false⟩, ⟨.faulted, none, false⟩⟩ }
     (s.faultDue .magOkWatchExpiry = some .m ∧ s.avail .m ≠ .ready) ∧
      (s.faultDue (.ecsOkWatchExpiry .drive) = some .e ∧ s.faultDue (.ecsOkWatchExpiry .flap) = some .e ∧
        s.faultDue .stallWatchExpiry = some .e ∧ s.avail .e ≠ .ready) ∧
      (s.faultDue .jetOkWatchExpiry = some .a ∧ s.avail .a ≠ .ready)) ∧
      (let s := turning 0 .rampingUp (some 5000) (some 1000)
       s.faultDue .stallWatchExpiry = some .e ∧ s.avail .e = .ready ∧ s.RotorSound) ∧
      (let s := (turning 800 .idle none none).modEcs fun e => { e with driveWatch := some 1000 }
       s.faultDue (.ecsOkWatchExpiry .drive) = some .e ∧ s.avail .e = .ready ∧ s.RotorSound) :=
  ⟨by decide, ⟨by decide, by decide, turning_starts⟩, by decide, by decide, turning_idle⟩

theorem witness_EstopTakesEveryStationOffline :
    let s := allDue.modInputs fun i => { i with estop := true }
    due s.now s.lsig.estopFilter = true ∧ s.inputs.estop = true ∧ s.avail .m = .ready ∧ s.avail .e = .ready ∧ s.avail .a = .ready := by
  decide

theorem witness_EstopTakesEveryStationOffline_rotor :
    let s := ((turning 0 .rampingUp (some 5000) (some 3000)).modLsig fun l => { l with estopFilter := some 1000 }).modInputs fun i =>
      { i with estop := true }
    due s.now s.lsig.estopFilter = true ∧ s.inputs.estop = true ∧ s.avail .e = .ready ∧ s.RotorSound :=
  ⟨by decide, by decide, by decide, turning_need _ _ _ _, ⟨by decide, by decide, by decide⟩, by unfold RotorReads; decide,
    by decide, by decide, by decide⟩

theorem witness_RotorIsMeasuredAndLetIdle_tach :
    working.ecs.lastTach = none ∧
      (let s := working.modEcs fun e => { e with lastTach := some 999 }
       s.ecs.lastTach = some 999 ∧ 0 < (s.now - 999).toNat * s.line.tachPpr) ∧
      due allDue.now allDue.ecs.tachTimeout = true := by decide

theorem witness_RotorIsMeasuredAndLetIdle_economy :
    (due allDue.now allDue.ecs.economy = true ∧ allDue.avail .e = .ready ∧ allDue.lsig.estop = false ∧ allDue.ecs.need = [] ∧
      allDue.activeParams.econEn ≠ 0) ∧
      (let s := allDue.modEcs fun e => { e with need := [47] }
       due s.now s.ecs.economy = true ∧ s.avail .e = .ready ∧ s.lsig.estop = false ∧ s.ecs.need ≠ []) ∧
      (let s := allDue.modStation .e fun i => { i with avail := .offline }
       due s.now s.ecs.economy = true ∧ s.avail .e ≠ .ready) := by decide

/-- One live record in slot 0, with its count. -/
def counted (s : State) : State := s.modSlot 0 fun k => { k with refs := 1 }

theorem counted_slots (st : RecState) (route : Option RouteEntry) (o : ByStation Result) : (counted (oneRecord st route o)).SlotsSound :=
  ⟨⟨0, of_decide_eq_true rfl⟩, of_decide_eq_true rfl, of_decide_eq_true rfl, of_decide_eq_true rfl, of_decide_eq_true rfl,
    of_decide_eq_true rfl, fun h => absurd rfl h⟩

/-- Station E becomes READY from rest, and goes OFFLINE again. An override gives a record a SPIN, a cancel takes the last need away. -/
theorem witness_RotorIsMeasuredAndLetIdle_changes :
    (∃ t, exec (.ecsOkChange true true) (at' 5) = .next t ∧ (at' 5).ecs.rotor ≠ .rampingUp ∧ t.ecs.rotor = .rampingUp ∧
      (at' 5).ecs.stall = none ∧ ¬ (at' 5).ecs.Stalls ∧ t.ecs.Stalls) ∧
      (let s := asking .supervisor 0x34 (le 1 1 ++ le 1 0) (turning 0 .rampingUp (some 5000) (some 3000))
       ∃ t, exec .stationSetOffline s = .next t ∧ s.ecs.rotor = .rampingUp ∧ t.ecs.rotor ≠ .rampingUp ∧ s.ecs.Stalls ∧
        ¬ t.ecs.Stalls) ∧
      (let s := asking .supervisor 0x2A (le 2 47 ++ le 2 spun.code) (counted (oneRecord .routed (some fired) ⟨.none, .none, .placed⟩))
       ∃ t, exec .recordOverride s = .next t ∧ s.SlotsSound ∧ s.ecs.need = [] ∧ t.ecs.need ≠ []) ∧
      (let s := asking .supervisor 0x2B (le 2 47) ((counted (oneRecord .routed (some spun) ⟨.none, .placed, .none⟩)).modEcs fun e =>
         { e with need := [47] })
       ∃ t, exec .recordCancel s = .next t ∧ s.SlotsSound ∧ s.ecs.need ≠ [] ∧ t.ecs.need = []) :=
  ⟨⟨_, rfl, by decide⟩, ⟨_, rfl, by decide⟩, ⟨_, rfl, counted_slots _ _ _, by decide, by decide⟩,
    _, rfl, counted_slots _ _ _, by decide, by decide⟩

theorem witness_PulsesOpenAndCloseAtTheirTimes_open :
    let p : Pulse := { openAt := 1000, closeAt := 3000, owners := [47], isOpen := false }
    (nozzle p).jet.pulses[9] = [] ++ p :: [] ∧ p.isOpen = false ∧ reached (nozzle p).now p.openAt = true := by decide

theorem witness_PulsesOpenAndCloseAtTheirTimes_close :
    let p : Pulse := { openAt := 500, closeAt := 1000, owners := [47], isOpen := true }
    (nozzle p).jet.pulses[9] = [] ++ p :: [] ∧ p.isOpen = true ∧ reached (nozzle p).now p.closeAt = true ∧ 47 ∈ p.owners ∧
      ((nozzle p).find 47).isSome = true ∧ 47 ∉ [48] ∧ ((nozzle { p with owners := [48] }).find 47).isSome = true := by decide

/-! ### Witnesses: the links -/

/-- The supervisor's receiver in a state. -/
def hearing (r : Receiver) : State := working.modSlink fun k => { k with rx := r }

theorem witness_ReceiverFollowsOrDropsTheFrame_follows :
    (working.link .classifier).rx.phase = .hunt ∧
      (((hearing ⟨.length, 0, [], none, 1000⟩).link .supervisor).rx.phase = .length ∧ 1 ≤ (64#8).toNat ∧ (64#8).toNat ≤ 64 ∧ 1 ≤ (1#8).toNat) ∧
      ((hearing ⟨.body, 2, [0x2C#8], none, 1000⟩).link .supervisor).rx.phase = .body ∧
      (((hearing ⟨.check, 1, [0x2C#8], none, 1000⟩).link .supervisor).rx.phase = .check ∧
        ((hearing ⟨.check, 1, [0x2C#8], none, 1000⟩).link .supervisor).rx.crcHigh = none) := by decide

theorem witness_ReceiverFollowsOrDropsTheFrame_drops :
    (almost.link .supervisor).rx.phase ≠ .hunt ∧
      (((hearing ⟨.length, 0, [], none, 1000⟩).link .supervisor).rx.phase = .length ∧ (0#8).toNat = 0 ∧ 64 < (65#8).toNat ∧
        64 < (0xA5#8).toNat) ∧
      ((almost.link .supervisor).rx.phase = .check ∧ (almost.link .supervisor).rx.crcHigh = some 0xCB#8 ∧
        crc16 (BitVec.ofNat 8 (almost.link .supervisor).rx.len :: (almost.link .supervisor).rx.got) ≠ 0xCB#8 ++ 0xD1#8) ∧
      (let s := almost.modPos fun p => { p with time := 3001 }
       (s.link .supervisor).rx.phase ≠ .hunt ∧ reached s.now ((s.link .supervisor).rx.lastByte + 2001) = true) := by decide +kernel

theorem witness_CompletedFrameJoinsTheQueue :
    ((almost.link .supervisor).rx.phase = .check ∧ (almost.link .supervisor).rx.crcHigh = some 0xCB#8 ∧
      crc16 (BitVec.ofNat 8 (almost.link .supervisor).rx.len :: (almost.link .supervisor).rx.got) = 0xCB#8 ++ 0xD0#8) ∧
      (almost.link .supervisor).rxQueue.length < 4 ∧
      4 ≤ ((almost.modSlink fun k => { k with rxQueue := List.replicate 4 ⟨0x2C#8, []⟩ }).link .supervisor).rxQueue.length := by
  decide +kernel

theorem witness_FrameBytesAreReceivedAsTheFrame :
    (List.replicate 63 (0#8)).length ≤ 63 ∧ (working.link .classifier).rx.phase = .hunt ∧
      ((working.modClink fun k => { k with rxQueue := List.replicate 3 ⟨0x10#8, []⟩ }).link .classifier).rxQueue.length < 4 := by decide

theorem witness_FrameSentFreesItsPlaceAndRatesWaitForIt_sent :
    (let s := working.modSlink fun k => { k with txQueue := [⟨0xAC#8, [0#8], none⟩] }
     (s.link .supervisor).txQueue = ⟨0xAC#8, [0#8], none⟩ :: [] ∧ (s.link .supervisor).rx.phase = .hunt) ∧
      (let s := almost.modSlink fun k => { k with txQueue := [⟨0xA1#8, [0#8], some 0⟩] }
       (s.link .supervisor).txQueue = ⟨0xA1#8, [0#8], some 0⟩ :: [] ∧ (s.link .supervisor).rx.phase ≠ .hunt) := by decide

theorem witness_EveryRequestTakenGetsOneReply :
    (let s := (asking .supervisor 0x2C [] working).modSlink fun k => { k with txQueue := List.replicate 3 ⟨0xAC#8, [0#8], none⟩ }
     (s.link .supervisor).rxQueue = ⟨0x2C#8, []⟩ :: [] ∧ (s.link .supervisor).txQueue.length < txPlaces .supervisor) ∧
      (let s := (asking .supervisor 0x2C [] working).modSlink fun k => { k with txQueue := List.replicate 4 ⟨0xAC#8, [0#8], none⟩ }
       (s.link .supervisor).rxQueue = ⟨0x2C#8, []⟩ :: [] ∧ txPlaces .supervisor ≤ (s.link .supervisor).txQueue.length) := by decide

theorem witness_MalformedRequestIsRefused :
    ((asking .supervisor 0x10 [] working).Waits .supervisor 0x10 [] [] ∧ bodyLength .supervisor 0x10 = none) ∧
      ((asking .classifier 0x20 [] working).Waits .classifier 0x20 [] [] ∧ bodyLength .classifier 0x20 = none) ∧
      ((asking .supervisor 0x2C [0#8] working).Waits .supervisor 0x2C [0#8] [] ∧ bodyLength .supervisor 0x2C = some 0 ∧ [0#8].length ≠ 0) :=
  ⟨⟨asking_waits _ _ _ _ (by decide), rfl⟩, ⟨asking_waits _ _ _ _ (by decide), rfl⟩, asking_waits _ _ _ _ (by decide), rfl, by decide⟩

/-! ### Witnesses: the classifier's requests -/

theorem witness_VerdictIsStoredOrRefused :
    (asking .classifier 0x10 (le 2 47 ++ le 1 13 ++ le 1 101) located).Waits .classifier 0x10 (le 2 47 ++ le 1 13 ++ le 1 101) [] ∧
      (asking .classifier 0x10 (le 2 9 ++ le 1 14 ++ le 1 0) located).find 9 = none ∧
      ((asking .classifier 0x10 (le 2 47 ++ le 1 14 ++ le 1 0) located).find 47).isSome = true ∧
      ((asking .classifier 0x10 (le 2 47 ++ le 1 13 ++ le 1 101) located).find 47).map (·.state) = some .pending ∧
      ((asking .classifier 0x10 (le 2 48 ++ le 1 13 ++ le 1 100) located).find 48).map (·.state) = some .opened ∧
      ((asking .classifier 0x10 (le 2 47 ++ le 1 13 ++ le 1 0)
        (oneRecord .settled (some spun) ⟨.none, .done, .none⟩)).find 47).map (·.state) = some .settled :=
  ⟨asking_waits _ _ _ _ (by decide), by decide⟩

theorem witness_RequestsByPositionFindTheRecord :
    ((asking .classifier 0x11 (le 4 600100 ++ le 1 8 ++ le 1 13 ++ le 1 100) located).Waits .classifier 0x11
        (le 4 600100 ++ le 1 8 ++ le 1 13 ++ le 1 100) [] ∧
      (located.locate 600100 8).map (·.state) = some .pending ∧ located.tab.tags.Nodup ∧ located.locate 600100 31 = none) ∧
      ((oneRecord .routed (some spun) ⟨.none, .placed, .none⟩).locate 600100 8).map (·.state) = some .routed ∧
      (asking .classifier 0x12 (le 4 600100 ++ le 1 8) located).Waits .classifier 0x12 (le 4 600100 ++ le 1 8) [] :=
  ⟨⟨asking_waits _ _ _ _ (by decide), by decide⟩, by decide, asking_waits _ _ _ _ (by decide)⟩

theorem witness_LocateFindsTheLatestFront :
    (∀ r ∈ located.tab.records, (located.here - r.f).toNat < 2 ^ 31) ∧ located.locate 600200 8 = none ∧
      located.locate 600110 8 = some record48 := by decide

/-! ### Witnesses: parameters -/

/-- A PARAM_WRITE that waits. -/
def writing (number slot value : Nat) (s : State) : State := asking .supervisor 0x21 (paramBody number slot value) s

theorem writing_waits (number slot value : Nat) (s : State) (h : (s.link .supervisor).txQueue.length < txPlaces .supervisor) :
    (writing number slot value s).Waits .supervisor 0x21 (paramBody number slot value) [] := asking_waits _ _ _ _ h

theorem witness_ParamReadAnswersByRange :
    (∀ number, (asking .supervisor 0x20 (le 2 number ++ le 1 2) working).Waits .supervisor 0x20 (le 2 number ++ le 1 2) []) ∧
      lineParamOf 0x000 = some .encFilter ∧ lineParamOf 0x062 = some .sightEn ∧ 0x070 = 0x070 + (0 : Fin 8).val ∧
      0x077 = 0x070 + (7 : Fin 8).val ∧ recipeParamOf 0x100 = some .tOn ∧ 2 = (2 : Fin 3).val ∧ recipeParamOf 0x114 ≠ none ∧
      0x20F = 0x208 + (7 : Fin 8).val ∧
      (∀ number ∈ [0x063, 0x06F, 0x079, 0x07F, 0x115, 0x1FF, 0x206, 0x207, 0x213],
        lineParamOf number = none ∧ recipeParamOf number = none ∧ (number < 0x070 ∨ 0x078 < number) ∧
          (number < 0x080 ∨ 0x0FF < number) ∧ (number < 0x200 ∨ number = 0x206 ∨ number = 0x207 ∨ 0x212 < number)) :=
  ⟨fun _ => asking_waits _ _ _ _ (by decide), by decide⟩

theorem witness_ParamWriteHoldsTheValueInRange :
    (∀ number, (writing number 0 1 working).Waits .supervisor 0x21 (paramBody number 0 1) []) ∧
      (lineParamOf 0x000 = some .encFilter ∧ paramWriteRow (paramBody 0x000 0 1) = .paramWrite) ∧
      (lineParamOf 0x041 = some .pulseMin ∧ paramWriteRow (paramBody 0x041 0 1) = .paramWrite) ∧
      (lineParamOf 0x042 = some .pulseMax ∧ paramWriteRow (paramBody 0x042 0 1) = .paramWrite) :=
  ⟨fun _ => writing_waits _ _ _ _ (by decide), by decide⟩

theorem witness_PerRecipeWriteKeepsTheBonds :
    (∀ number slot, (writing number slot 1 working).Waits .supervisor 0x21 (paramBody number slot 1) []) ∧
      500 ≤ working.line.rotorMaxRpm ∧ recipeParamOf 0x17F = none ∧ recipeParamOf 0x100 = some .tOn ∧ recipeParamOf 0x101 = some .tOff ∧
      (∃ n, 0x100 ≤ n ∧ n ≤ 0x17F ∧ recipeParamOf n = some .runRpm) ∧ (∃ n, 0x100 ≤ n ∧ n ≤ 0x17F ∧ recipeParamOf n = some .idleRpm) ∧
      (∃ n, 0x100 ≤ n ∧ n ≤ 0x17F ∧ recipeParamOf n = some .econEn) ∧
      working.rcp.slots[0].state = .active ∧ (working.rcp.slots[2].state ≠ .active ∧ working.rcp.slots[2].state ≠ .draining) :=
  ⟨fun _ _ => writing_waits _ _ _ _ (by decide), by decide, by decide, by decide, by decide, ⟨0x112, by decide⟩, ⟨0x113, by decide⟩,
    ⟨0x114, by decide⟩, by decide, by decide⟩

theorem witness_OwnedParametersActAtTheWrite_position :
    (∀ number, (writing number 0 50 working).Waits .supervisor 0x21 (paramBody number 0 50) []) ∧
      working.pos.stopTimer = none ∧
      (let s := writing 1 0 50 ((at' 50000).modPos fun p => { p with stopTimer := some 250000, latestAdvance := 1 })
       s.Waits .supervisor 0x21 (paramBody 1 0 50) [] ∧ s.pos.stopTimer ≠ none ∧
        reached s.now (s.pos.latestAdvance + BitVec.ofNat 32 (50 * 1000)) = false) ∧
      (let s := writing 1 0 50 ((at' 50000).modPos fun p => { p with stopTimer := some 250000, latestAdvance := 0 })
       s.Waits .supervisor 0x21 (paramBody 1 0 50) [] ∧ s.pos.stopTimer ≠ none ∧
        reached s.now (s.pos.latestAdvance + BitVec.ofNat 32 (50 * 1000)) = true) :=
  ⟨fun _ => writing_waits _ _ _ _ (by decide), by decide, ⟨writing_waits _ _ _ _ (by decide), by decide⟩,
    writing_waits _ _ _ _ (by decide), by decide⟩

theorem witness_OwnedParametersActAtTheWrite_signals :
    (∀ number v, (writing number 0 v working).Waits .supervisor 0x21 (paramBody number 0 v) []) ∧
      (false = true ↔ ∃ j : Fin 8, (working.line.auxFn.set 7 0)[j] = 1 ∧ working.inputs.aux.getLsbD j = true) ∧
      false = working.mag.hotInput ∧
      (let s := writing 0x077 0 1 (working.modInputs fun i => { i with aux := 128 })
       s.Waits .supervisor 0x21 (paramBody 0x077 0 1) [] ∧
        (true = true ↔ ∃ j : Fin 8, (s.line.auxFn.set 7 1)[j] = 1 ∧ s.inputs.aux.getLsbD j = true) ∧ true ≠ s.mag.hotInput) :=
  ⟨fun _ _ => writing_waits _ _ _ _ (by decide), by decide, by decide, writing_waits _ _ _ _ (by decide), by decide⟩

theorem witness_GeometryIsWrittenOnAnEmptyTable :
    (∀ number v, (writing number 0 v working).Waits .supervisor 0x21 (paramBody number 0 v) []) ∧
      lineParamOf 0x010 = some .dDec ∧ lineParamOf 0x016 = some .lMax ∧ working.tab.records = [] ∧ located.tab.records ≠ [] ∧
      (let new := LineParam.dDec.set 1664 working.line
       new.lMax + 64 ≤ new.dDec ∧ new.dDec + 512 ≤ new.pMag ∧ new.pMag + new.magLen + 256 ≤ new.pHead) ∧
      ¬ (LineParam.dDec.set 1663 working.line).lMax + 64 ≤ (LineParam.dDec.set 1663 working.line).dDec :=
  ⟨fun _ _ => writing_waits _ _ _ _ (by decide), by decide⟩

theorem witness_HeatAndRotorParametersActAtTheWrite_heat :
    (writing 0x024 0 1000 (powered .on)).Waits .supervisor 0x21 (paramBody 0x024 0 1000) [] ∧
      (powered .on).mag.segments[2].cooling = false ∧ 1000 ≤ min (powered .on).mag.segments[2].heat (1000 + 94) ∧
      (powered .on).mag.segments[2].driven = true ∧ (powered .on).mag.segments[0].driven = false ∧
      47 ∈ ((powered .on).modArb fun a =>
        { a with segments := a.segments.set 2 [⟨47, .lift, 3, 500, some 2000, 3000, true⟩] }).liftsOn 2 :=
  ⟨writing_waits _ _ _ _ (by decide), by decide⟩

theorem witness_HeatAndRotorParametersActAtTheWrite_rotor :
    (∀ number v, (writing number 0 v working).Waits .supervisor 0x21 (paramBody number 0 v) []) ∧
      (∃ k : Fin 3, working.rcp.slots[k].state ≠ .free ∧ 2999 < working.rcp.slots[k].recipe.params.runRpm) ∧
      ∀ k : Fin 3, working.rcp.slots[k].state ≠ .free → working.rcp.slots[k].recipe.params.runRpm ≤ 3000 :=
  ⟨fun _ _ => writing_waits _ _ _ _ (by decide), by decide, by decide⟩

theorem witness_FrameSentFreesItsPlaceAndRatesWaitForIt_rates :
    ∀ number v, (writing number 0 v working).Waits .supervisor 0x21 (paramBody number 0 v) [] :=
  fun _ _ => writing_waits _ _ _ _ (by decide)

/-! ### Witnesses: the recipe store -/

/-- Bits that spell no route entry. -/
theorem no_entry (e : RouteEntry) (_ : e.valid = true) (h : e.priority ≤ 15) : e.code ≠ 8192 := by
  have ht : e.target.code ≤ 3 := by cases e.target <;> decide
  have hm : e.m.code ≤ 2 := by cases e.m <;> decide
  have he : e.e.code ≤ 3 := by cases e.e <;> decide
  have ha : e.a.code ≤ 2 := by cases e.a <;> decide
  unfold RouteEntry.code
  omega

theorem witness_RouteEntriesAreReadAndWritten :
    (∀ body, (asking .supervisor 0x22 body working).Waits .supervisor 0x22 body []) ∧
      (∀ body, (asking .supervisor 0x23 body working).Waits .supervisor 0x23 body []) ∧
      (2 < 3 ∨ 5 < 6 ∨ 4 < 5 ∧ 15 < 16 ∨ 5 = 5 ∧ 1 ≠ 0) ∧ (2 = (2 : Fin 3).val ∧ 4 = (4 : Fin 5).val ∧ 15 = (15 : Fin 16).val) ∧
      working.rcp.slots[0].state = .active ∧ (working.rcp.slots[2].state ≠ .active ∧ working.rcp.slots[2].state ≠ .draining) ∧
      (∀ e : RouteEntry, e.valid = true → e.priority ≤ 15 → e.code ≠ 8192) ∧
      (lifted.valid = true ∧ lifted.priority ≤ 15 ∧ lifted.code = 1540) :=
  ⟨fun _ => asking_waits _ _ _ _ (by decide), fun _ => asking_waits _ _ _ _ (by decide), by decide, by decide, by decide, by decide,
    no_entry, by decide⟩

/-- Slot 1 in a state. -/
def slotted (st : SlotState) (psw : Option W32) : State :=
  working.modRcp fun r => { r with slots := r.slots.set 1 { r.slots[1] with state := st }, psw := psw }

theorem witness_RecipeSlotsAreCopiedArmedAndFreed :
    (∀ body st psw, (asking .supervisor 0x24 body (slotted st psw)).Waits .supervisor 0x24 body []) ∧ 2 < 3 ∧
      (slotted .edit none).rcp.slots[1].state = .edit ∧ (∀ j : Fin 3, (slotted .edit none).rcp.slots[j].state ≠ .armed) ∧
      (let s := (slotted .edit none).modRcp fun r => { r with slots := r.slots.set 2 { r.slots[2] with state := .armed } }
       s.rcp.slots[1].state = .edit ∧ ∃ j : Fin 3, s.rcp.slots[j].state = .armed) ∧
      (slotted .armed none).rcp.slots[1].state = .armed ∧ (slotted .armed none).rcp.psw = none ∧
      (slotted .armed (some 2000)).rcp.psw ≠ none ∧ (slotted .free none).rcp.slots[1].state = .free ∧
      (slotted .draining none).rcp.slots[1].state = .draining ∧ 5 < 6 :=
  ⟨fun _ _ _ => asking_waits _ _ _ _ (by show 0 < 4; decide), by decide⟩

theorem witness_RecipeStatusShowsTheStore :
    let body := le 1 5 ++ le 1 0 ++ le 1 0 ++ le 4 0
    (asking .supervisor 0x24 body (slotted .armed (some 2000))).Waits .supervisor 0x24 body [] := asking_waits _ _ _ _ (by decide)

theorem witness_SwitchIsSetOrTakesEffect :
    (∀ body st psw, (asking .supervisor 0x24 body (slotted st psw)).Waits .supervisor 0x24 body []) ∧
      (∀ k : Fin 3, (slotted .edit none).rcp.slots[k].state ≠ .armed) ∧
      ((∃ k : Fin 3, (slotted .armed (some 2000)).rcp.slots[k].state = .armed) ∧ (slotted .armed (some 2000)).rcp.psw ≠ none) ∧
      ((∃ k : Fin 3, (slotted .armed none).rcp.slots[k].state = .armed) ∧
        (∀ k : Fin 3, (slotted .armed none).rcp.slots[k].state ≠ .draining) ∧ (slotted .armed none).rcp.psw = none) ∧
      (slotted .armed (some 1000)).rcp.psw = some (slotted .armed (some 1000)).here :=
  ⟨fun _ _ _ => asking_waits _ _ _ _ (by show 0 < 4; decide), by decide, by decide, by decide, by decide⟩

/-! ### Witnesses: the table, the claims and the stations -/

theorem witness_TableIsReadAndTotalsAreCleared :
    (∀ kind body, (asking .supervisor kind body located).Waits .supervisor kind body []) ∧ located.find 9 = none ∧
      (located.find 47).isSome = true ∧ 31 < 32 ∧ located.locate (BitVec.ofNat 32 600200) 8 = none ∧
      (located.locate (BitVec.ofNat 32 600110) 8).isSome = true :=
  ⟨fun _ _ => asking_waits _ _ _ _ (by decide), by decide⟩

theorem witness_OverrideForcesOrReplacesARoute :
    (∀ body st route o, (asking .supervisor 0x2A body (oneRecord st route o)).Waits .supervisor 0x2A body []) ∧
      (∀ e : RouteEntry, e.valid = true → e.priority ≤ 15 → e.code ≠ 8192) ∧
      (lifted.valid = true ∧ lifted.priority ≤ 15 ∧ lifted.code = 1540) ∧ located.find 9 = none ∧
      ((oneRecord .settled (some spun) ⟨.none, .done, .none⟩).find 47).map (·.state) = some .settled ∧
      (located.find 47).map (·.state) = some .pending ∧ (Result.acting).TellsBegun ∧
      (∃ r, (oneRecord .routed (some spun) ⟨.none, .placed, .none⟩).find 47 = some r ∧ r.state = .routed ∧
        (∀ st, ¬ (r.outcome.get st).TellsBegun) ∧ (∃ c, r.closing = some c) ∧ r.tailGone = false ∧ r.span.first ≤ r.span.last ∧
        r.span.last ≤ 31) :=
  ⟨fun _ _ _ _ => asking_waits _ _ _ _ (by show 0 < 4; decide), no_entry, by decide, by decide, by decide, by decide, .inl rfl,
    _, rfl, rfl, fun st => by cases st <;> simp [Result.TellsBegun, ByStation.get], ⟨_, rfl⟩, rfl, by decide, by decide⟩

theorem witness_CancelRetiresAnUnsettledRecord :
    (∀ tag, (asking .supervisor 0x2B (le 2 tag) located).Waits .supervisor 0x2B (le 2 tag) []) ∧ located.find 9 = none ∧
      ((oneRecord .settled (some spun) ⟨.none, .done, .none⟩).find 47).map (·.state) = some .settled ∧
      (located.find 48).map (·.state) = some .opened ∧
      (let s := nozzle { openAt := 500, closeAt := 3000, owners := [47], isOpen := true }
       (s.find 47).map (·.state) = some .airborne ∧ s.hasOpenPulse 47 = true) ∧
      (let s := nozzle { openAt := 2000, closeAt := 3000, owners := [47], isOpen := false }
       (s.find 47).map (·.state) = some .airborne ∧ s.hasOpenPulse 47 = false ∧ s.hasBegun 47 .m = false ∧ s.hasBegun 47 .e = false ∧
        s.hasBegun 47 .a = false) :=
  ⟨fun _ => asking_waits _ _ _ _ (by decide), by decide⟩

theorem witness_CollectTakesTheOldestSettledRecord :
    (asking .supervisor 0x2C [] working).Waits .supervisor 0x2C [] [] ∧ working.tab.queue = [] ∧
      (let s := (oneRecord .settled (some spun) ⟨.none, .done, .none⟩).modTab fun b => { b with queue := [47] }
       s.tab.queue = 47 :: [] ∧ (s.find 47).isSome = true) :=
  ⟨asking_waits _ _ _ _ (by decide), by decide⟩

theorem witness_SettledRecordsAreDisposedByTheirOutcomes :
    let s := oneRecord .routed (some lifted) ⟨.done, .none, .none⟩
    (s.find 47).map (fun r => (r.route, r.state, r.outcome.m)) = some (some lifted, .routed, .done) ∧
      s.hasClaims 47 .m = false ∧ s.hasClaims 47 .e = false ∧ s.hasClaims 47 .a = false ∧ s.hasPulse 47 = false ∧ lifted.m = .lift ∧
      lifted.acts .m = true ∧ lifted.acts .e = false ∧ lifted.acts .a = false := by decide

/-- Record 47, ROUTED with a LIFT of priority 3, at a position, and perhaps a rival on segment 1. -/
def placing (position : Nat) (rivals : List Claim) : State :=
  ((oneRecord .routed (some lifted) ⟨.none, .none, .none⟩).modPos fun p =>
    { p with position := BitVec.ofNat 32 position, t64 := 8000 }).modArb fun a => { a with segments := a.segments.set 1 rivals }

/-- A HOLD_OFF over the same stretch. -/
def rival (priority : Nat) (begun : Bool) : Claim :=
  { owner := 12, kind := .holdOff, priority := priority, start := 604000, release := none, stop := 605300, begun := begun }

/-- The LIFT's start is F + P_MAG less the counts of MAG_RISE_MS: 600,000 + 4,000 - 96. -/
theorem witness_PlacementIsTestedInOrder :
    (let s := placing 603903 []
     (s.find 47).map (fun r => (r.route, r.closing.isSome, r.outcome.m)) = some (some lifted, true, .none) ∧
      lifted.acts .m = true ∧ s.hasClaims 47 .m = false ∧ s.avail .m = .ready ∧ lifted.kind .m = some .lift ∧
      reached s.here 603904 = false) ∧
      reached (placing 603904 []).here 603904 = true ∧
      (spun.acts .e = true ∧ spun.kind .e = none) ∧
      ((rival 3 false).kind.opposes .lift = true ∧ reached (rival 3 false).stop 603904 = true ∧
        rival 3 false ∈ ((placing 603903 [rival 3 false]).arb.lists .m).getD 1 [] ∧ lifted.priority ≤ (rival 3 false).priority) ∧
      (rival 2 false ∈ ((placing 603903 [rival 2 false]).arb.lists .m).getD 1 [] ∧ ¬ lifted.priority ≤ (rival 2 false).priority) ∧
      12 ≤ (((placing 603903 (List.replicate 12 { rival 2 false with start := 606000, stop := 607000 })).arb.lists .m).getD 1 []).length := by
  decide +kernel

/-- Record 47 at its decision point, changed. -/
def deciding (f : Record → Record) : State := located.modRecord 47 f

theorem witness_DecisionPointRoutesTheRecord :
    let verdict (conf : Nat) : Verdict := { code := 7, conf := conf, source := .classifier, amend := 1 }
    (∃ r c, located.find 47 = some r ∧ r.state = .pending ∧ r.closing = some c ∧ r.outcome = ⟨.none, .none, .none⟩ ∧ r.tailGone = false ∧
      (∀ st, located.hasClaims 47 st = false) ∧ r.span.first ≤ r.span.last ∧ r.span.last ≤ 31 ∧ r.flags.overlength = false ∧
      r.flags.continued = false ∧ r.verdict = none ∧ r.forced = none) ∧
      ((deciding fun r => { r with flags := { r.flags with overlength := true } }).find 47).map (·.flags.overlength) = some true ∧
      ((deciding fun r => { r with verdict := some (verdict 59) }).find 47).map (·.verdict) = some (some (verdict 59)) ∧
      (verdict 59).conf < (located.rcp.slots[0]).recipe.params.confMin ∧ (located.rcp.slots[0]).recipe.params.confMin ≤ (verdict 60).conf ∧
      ((deciding fun r => { r with forced := some lifted }).find 47).map (·.forced) = some (some lifted) :=
  ⟨⟨_, _, rfl, rfl, rfl, rfl, rfl, fun st => by cases st <;> rfl, by decide⟩, by decide⟩

/-- Record 47 with an action whose claim stands in list 1 of a station, all its points reached at this very position. -/
def claiming (st : Station) (route : RouteEntry) (k : ClaimKind) (begun : Bool) (outcome : ByStation Result) : State :=
  (oneRecord .routed (some route) outcome).modArb fun a => a.map st fun i _ =>
    if i = 1 then [{ owner := 47, kind := k, priority := 3, begun := begun, start := 600200, release := some 600200, stop := 600200 }]
    else []

def heldOff : RouteEntry := { target := .nonferrous, m := .holdOff, e := .near, a := .none, priority := 1 }

theorem witness_BegunActionTakesItsResources :
    ((claiming .m lifted .lift false ⟨.placed, .none, .none⟩).ActionStands 47 .m fun x =>
      x.kind = .lift ∧ x.begun = false ∧ x.start = 600200) ∧
      lifted.kind .m = some .lift ∧ (claiming .m lifted .lift false ⟨.placed, .none, .none⟩).here = 600200 ∧
      (claiming .m lifted .lift false ⟨.placed, .none, .none⟩).Holds 47 .m 1 ∧
      ((claiming .m lifted .lift false ⟨.placed, .none, .none⟩).modMag fun m =>
        { m with segments := m.segments.set 1 { m.segments[1] with cooling := true } }).mag.segments[1].cooling = true ∧
      ((claiming .m heldOff .holdOff false ⟨.placed, .placed, .none⟩).ActionStands 47 .m fun x =>
        x.kind = .holdOff ∧ x.begun = false ∧ x.start = 600200) ∧ heldOff.kind .m = some .holdOff ∧
      ((claiming .e heldOff .near false ⟨.placed, .placed, .none⟩).ActionStands 47 .e fun x =>
        x.kind = .near ∧ x.begun = false ∧ x.start = 600200) ∧ heldOff.kind .e = some .near ∧
      ((claiming .a fired .eject false ⟨.none, .none, .placed⟩).ActionStands 47 .a fun x =>
        x.kind = .eject ∧ x.begun = false ∧ x.start = 600200) ∧ fired.kind .a = some .eject := by
  simp only [State.ActionStands, State.Holds]
  decide +kernel

theorem witness_ReleasedLiftsFallAndEndedActionsAreJudged :
    (let s := claiming .m lifted .lift true ⟨.acting, .none, .none⟩
     (s.ActionStands 47 .m fun x => x.begun = true ∧ x.release = some s.here) ∧
      (s.ActionStands 47 .m fun x => x.kind = .lift ∧ x.begun = true ∧ x.stop = s.here) ∧
      (s.find 47).map (fun r => (r.state, r.route, r.outcome.m.inProgress)) = some (.routed, some lifted, true)) ∧
      (let s := (claiming .m heldOff .holdOff true ⟨.acting, .placed, .none⟩).modMag fun m =>
        { m with segments := m.segments.set 1 { m.segments[1] with watches := [{ owner := 47, breached := true }] } }
       (s.ActionStands 47 .m fun x => x.kind = .holdOff ∧ x.begun = true ∧ x.stop = s.here) ∧
        ∃ i : Fin 8, ∃ w ∈ s.mag.segments[i].watches, w.owner = 47 ∧ w.breached = true) ∧
      (let s := claiming .a fired .eject true ⟨.none, .none, .acting⟩
       (s.ActionStands 47 .a fun x => x.kind = .eject ∧ x.begun = true ∧ x.stop = s.here) ∧ 47 ∉ s.ecs.need ∧ fired.e = .none) := by
  simp only [State.ActionStands]
  decide +kernel

/-- Record 47 at its front departure with an EJECT placed, the belt RUNNING at T64 3,200, with a valve latency. -/
def firing (valveLat : Nat) : State :=
  ((oneRecord .routed (some fired) ⟨.none, .none, .placed⟩).modPos fun p => { p with belt := .running, t64 := 3200 }).modLine fun l =>
    { l with dAir := 1, valveLat := valveLat }

/-- The pulse opens at once: 50 µs of flight less the latency. It is 5,200 + 1,000 µs wide. -/
theorem witness_DeparturesCheckTheRotorFireAndSettle :
    let pulse (valveLat : Nat) : W32 := 1000 + BitVec.ofNat 32 (1 * 3200 / 64) - BitVec.ofNat 32 valveLat
    let width := min 40000 (max 1500 (104 * 3200 / 64 + 1000))
    ((firing 2500).find 47).map (fun r => (r.state, r.route, r.closing.isSome, r.tailGone)) = some (.routed, some fired, true, false) ∧
      fired.valid = true ∧ (firing 2500).pos.belt = .running ∧
      (reached (firing 2500).now (pulse 2500) = true ∧ 1500 ≤ (pulse 2500 + BitVec.ofNat 32 width - (firing 2500).now).toNat) ∧
      (reached (firing 5000).now (pulse 5000) = true ∧ ¬ 1500 ≤ (pulse 5000 + BitVec.ofNat 32 width - (firing 5000).now).toNat) ∧
      (oneRecord .routed (some fired) ⟨.none, .none, .placed⟩).pos.belt ≠ .running ∧
      (let far (k : Nat) : Pulse := ⟨BitVec.ofNat 32 (20000 * k), BitVec.ofNat 32 (20000 * k + 2000), [k], false⟩
       let s := (firing 2500).modJet fun j => { j with pulses := j.pulses.set 20 [far 1, far 2, far 3, far 4] }
       (2 * 4 - 1 ≤ 20 ∧ 20 ≤ min 63 (2 * 9 + 1 + 1)) ∧
        4 < (addPulse s.now s.line.jetGap ⟨1000, pulse 2500 + BitVec.ofNat 32 width, [47], false⟩ s.jet.pulses[20]).2.length) ∧
      ((oneRecord .routed (some spun) ⟨.none, .placed, .none⟩).ecs.rotor ≠ .run ∧ spun.valid = true ∧ spun.e ≠ .none) ∧
      (let s := located.modPos fun p => { p with position := 612100 }
       (∃ r c, s.find 47 = some r ∧ r.state ≠ .settled ∧ r.closing = some c ∧ c.t + BitVec.ofNat 32 s.line.pHead = s.here) ∧
        (s.find 48).map (·.closing.isSome) = some false) := by
  refine ⟨by decide, by decide, by decide, by decide +kernel, by decide +kernel, by decide, by decide +kernel, by decide,
    ⟨record47, ⟨600100, 104, .nonferrous⟩, by decide +kernel⟩, by decide⟩

/-- Two pulses 1,000 µs apart. -/
theorem witness_PulsesWithinTheGapAreJoined :
    let at' (x : W32) : Nat := (x - 1000 + BitVec.ofNat 32 (2 ^ 30)).toNat
    ∀ x ∈ ([⟨2000, 4000, [47], false⟩, ⟨5000, 7000, [48], false⟩] : List Pulse),
      at' x.openAt ≤ at' x.closeAt ∧ at' x.closeAt < 2 ^ 31 ∧ x.owners.Nodup := by decide +kernel

theorem witness_StationsGoOfflineOrIntoACensus :
    (∀ kind body, (asking .supervisor kind body working).Waits .supervisor kind body []) ∧ working.lsig.estop = false ∧
      working.avail .m = .ready ∧ 2 = stationCode .a ∧ 2 < 3 ∧
      (let s := working.modLsig fun l => { l with estop := true }
       (∀ kind body, (asking .supervisor kind body s).Waits .supervisor kind body []) ∧ s.lsig.estop = true) ∧
      ∀ kind body, (asking .supervisor kind body (turning 800 .idle none none)).Waits .supervisor kind body [] ∧
        (asking .supervisor kind body (turning 800 .idle none none)).RotorSound :=
  ⟨fun _ _ => asking_waits _ _ _ _ (by decide), by decide, by decide, by decide, by decide,
    ⟨fun _ _ => asking_waits _ _ _ _ (by decide), by decide⟩, fun _ _ => ⟨asking_waits _ _ _ _ (by decide), turning_idle⟩⟩

theorem witness_FlagsAlertsAndStatusAreRead_flags :
    (asking .supervisor 0x35 [] working).Waits .supervisor 0x35 [] [] ∧
      (asking .supervisor 0x39 (le 2 65535) working).Waits .supervisor 0x39 (le 2 65535) [] :=
  ⟨asking_waits _ _ _ _ (by decide), asking_waits _ _ _ _ (by decide)⟩

theorem witness_FlagsAlertsAndStatusAreRead_status : (asking .supervisor 0x38 [] working).Waits .supervisor 0x38 [] [] :=
  asking_waits _ _ _ _ (by decide)

theorem witness_OutputsShowTheState :
    let s := (working.modLine fun l => { l with auxFn := #v[2, 3, 4, 0, 1, 0, 0, 0] }).modClink fun k =>
      { k with txQueue := [⟨0xC0#8, [], none⟩] }
    s.line.auxFn[0] = 2 ∧ s.line.auxFn[1] = 3 ∧ s.line.auxFn[2] = 4 ∧ (s.line.auxFn[3] ≠ 2 ∧ s.line.auxFn[3] ≠ 3 ∧ s.line.auxFn[3] ≠ 4) ∧
      (s.link .supervisor).txQueue = [] ∧ (s.link .classifier).txQueue = ⟨0xC0#8, [], none⟩ :: [] := by decide

/-- One OPEN record with its tracker, one SETTLED record in the queue, a warm segment, and a command that waits. -/
def sound : State :=
  ((((turning 800 .idle none none).modTab fun t =>
    { t with
      records := [{ record48 with tag := 1 }, { record47 with tag := 2, state := .settled, route := some spun }]
      queue := [2], tagCounter := 3 }).modSeg fun g =>
    { g with trackers := [⟨.bound 1, ⟨7, 12⟩, 600120, 600140, 0, ⟨300, 190⟩, ⟨false, true, false⟩, false⟩] }).modSlot 0 fun k =>
    { k with refs := 2 }).modMag fun m => { m with segments := m.segments.set 2 { m.segments[2] with power := .on, heat := 59999 } }

theorem sound_rotor : sound.RotorSound := by
  refine ⟨fun tag => ⟨fun h => absurd h List.not_mem_nil, fun ⟨r, hr, _, hn⟩ => ?_⟩, ⟨by decide, by decide, by decide⟩,
    by unfold RotorReads; decide, by decide, by decide, by decide⟩
  have hr : r ∈ [({ record48 with tag := 1 } : Record), { record47 with tag := 2, state := .settled, route := some spun }] := hr
  simp only [List.mem_cons, List.not_mem_nil, or_false] at hr
  rcases hr with rfl | rfl <;> simp [Record.Needs, record48] at hn

theorem sound_slots : sound.SlotsSound :=
  ⟨⟨0, by decide⟩, by decide, by decide, by decide, by decide, by decide, fun h => absurd rfl h⟩

theorem witness_PurgeEmptiesTheTableAndTheLists :
    (let s := asking .supervisor 0x3D [] sound
     s.SlotsSound ∧ s.Waits .supervisor 0x3D [] [] ∧ s.ecs.need = []) ∧
      (let s := asking .supervisor 0x3D [] (sound.modEcs fun e => { e with need := [1] })
       s.SlotsSound ∧ s.Waits .supervisor 0x3D [] [] ∧ s.ecs.need ≠ [] ∧ s.avail .e = .ready ∧ s.lsig.estop = false) :=
  ⟨⟨sound_slots, asking_waits _ _ _ _ (by decide), by decide⟩, sound_slots, asking_waits _ _ _ _ (by decide), by decide⟩

theorem witness_RestartPutsEachBlockBack :
    (let s := asking .supervisor 0x3C [] sound
     s.SlotsSound ∧ s.RotorSound ∧ s.Waits .supervisor 0x3C [] [] ∧ s.lsig.estop = false ∧
      (s.inputs.driveOk && s.inputs.flapOk) = false) ∧
      (let s := asking .supervisor 0x3C [] (sound.modInputs fun i => { i with driveOk := true, flapOk := true })
       s.SlotsSound ∧ s.RotorSound ∧ s.Waits .supervisor 0x3C [] [] ∧ s.lsig.estop = false ∧
        (s.inputs.driveOk && s.inputs.flapOk) = true) :=
  ⟨⟨sound_slots, sound_rotor, asking_waits _ _ _ _ (by decide), by decide⟩, sound_slots, sound_rotor,
    asking_waits _ _ _ _ (by decide), by decide⟩

/-! ### Witnesses: the whole part -/

theorem witness_LatchesAndTotalsOnlyGrow :
    ∃ t, exec .heatStep (working.latch .coil) = .next t ∧ (working.latch .coil).latched .coil = true ∧
      working.tab.totals.ferrous ≤ 4294967295 := ⟨_, rfl, by decide, by decide⟩

/-- The same, with a command that the step takes. -/
def stepping : State := { sound with pending := [.stationStatus] }

theorem stepping_steps : ∃ t, step stepping = .next t := ⟨_, rfl⟩

theorem witness_TableSlotsAndRotorStaySound :
    stepping.TableSound ∧ stepping.SlotsSound ∧ stepping.RotorSound ∧ ∃ t, step stepping = .next t := by
  refine ⟨⟨by decide, by decide, by decide, by decide, by decide, by decide, ?_, ?_, ?_⟩, ?_, sound_rotor, stepping_steps⟩
  · intro tag
    show tag ∈ [2] ↔ ∃ r ∈ [({ record48 with tag := 1 } : Record), { record47 with tag := 2, state := .settled, route := some spun }],
      r.tag = tag ∧ r.state = .settled
    simp [record48, record47, eq_comm]
  · intro t ht tag hk
    have ht : t ∈ [(⟨.bound 1, ⟨7, 12⟩, 600120, 600140, 0, ⟨300, 190⟩, ⟨false, true, false⟩, false⟩ : Tracker)] := ht
    simp only [List.mem_singleton] at ht
    subst ht
    injection hk with hk
    subst hk
    exact ⟨{ record48 with tag := 1 }, List.mem_cons_self, rfl, rfl⟩
  · exact List.pairwise_singleton _ _
  · exact sound_slots

theorem line_in_range : stepping.line.InRange := by
  refine ⟨fun p => by cases p <;> decide, by decide⟩

theorem witness_ParametersAndEntriesStaySound : stepping.ParamsInRange ∧ stepping.EntriesPassed ∧ ∃ t, step stepping = .next t := by
  refine ⟨⟨line_in_range, fun k => ⟨fun p => ?_, ?_⟩⟩, ⟨fun k row c => ?_, ?_⟩, stepping_steps⟩
  · revert k; cases p <;> decide
  · revert k; decide
  · cases c with
    | col n => revert k row n; exact (by decide : ∀ (k : Fin 3) (row : Fin 5) (n : Fin 16),
        (stepping.rcp.slots[k].recipe.rows[row][n]).valid = true ∧ (stepping.rcp.slots[k].recipe.rows[row][n]).priority ≤ 7)
    | overlength => exact (by decide : ∀ k : Fin 3, (stepping.rcp.slots[k].recipe.overlength).valid = true ∧
        (stepping.rcp.slots[k].recipe.overlength).priority ≤ 7) k
  · intro r hr
    have hr : r ∈ [({ record48 with tag := 1 } : Record), { record47 with tag := 2, state := .settled, route := some spun }] := hr
    simp only [List.mem_cons, List.not_mem_nil, or_false] at hr
    rcases hr with rfl | rfl <;> simp [record48, record47, RouteEntry.Passed, spun, RouteEntry.valid]

theorem witness_HeatAndMeasuresStayBounded :
    stepping.HeatBounded ∧ stepping.MeasuresInRange ∧ stepping.line.InRange ∧ ∃ t, step stepping = .next t :=
  ⟨⟨by decide, by decide⟩, ⟨by decide, by decide⟩, line_in_range, stepping_steps⟩

theorem witness_StopQueuesAndListsStaySound :
    (∃ t, step stepping = .next t) ∧
      (let s := allDue.modLsig fun l =>
        { l with estop := true, stations := ⟨⟨.offline, none, false⟩, ⟨.offline, none, false⟩, ⟨.offline, none, false⟩⟩ }
       s.StopHolds ∧ s.lsig.estop = true) ∧
      stepping.QueuesFit ∧ stepping.ListsFit :=
  ⟨stepping_steps, ⟨fun _ st => by cases st <;> rfl, rfl⟩, fun l => by cases l <;> decide,
    fun st => by cases st <;> decide, by decide⟩

end Sys2Proof.Tests
end

/-! ## What each command reaches

One lemma for each serving of a request, and one for all the commands: whatever a command does, it does within the blocks of its row. -/

namespace Sys2Proof.Machine

/-! ### The servings that only read -/

section Readers
variable (s : State)

theorem serveLocate_state (p coil : Nat) : (serveLocate p coil s).1 = s := by
  unfold serveLocate
  split
  · rfl
  · split <;> rfl

theorem serveParamRead_state (number slot : Nat) : (serveParamRead number slot s).1 = s := by
  unfold serveParamRead
  split
  · split <;> rfl
  · rfl
  · split
    · rfl
    · split <;> rfl
  · split <;> rfl
  · rfl

theorem serveRouteRead_state (slot row column : Nat) : (serveRouteRead slot row column s).1 = s := by
  unfold serveRouteRead
  split <;> rfl

theorem serveRecordRead_state (tag : Nat) : (serveRecordRead tag s).1 = s := by
  unfold serveRecordRead
  split
  · rfl
  · split <;> rfl

theorem serveRecordFind_state (p coil : Nat) : (serveRecordFind p coil s).1 = s := by
  unfold serveRecordFind
  split
  · rfl
  · split <;> rfl

end Readers

/-- What only reads keeps every frame. -/
theorem Within.of_eq {bs : List Block} {s t : State} (h : t = s) : Within bs s t := h ▸ Within.refl bs s

/-! ### The servings that write -/

section Writers
variable (s : State)

theorem answerVerdict_within (r : Record) (code conf : Nat) : Within [.tab] s (s.answerVerdict r code conf).1 :=
  giveVerdict_within s r code conf

theorem serveVerdict_within (tag code conf : Nat) : Within [.tab] s (serveVerdict tag code conf s).1 := by
  unfold serveVerdict
  split
  · exact Within.refl _ s
  · split
    · exact Within.refl _ s
    · split
      · exact Within.refl _ s
      · exact answerVerdict_within s _ code conf

theorem serveVerdictAt_within (p coil code conf : Nat) : Within [.tab] s (serveVerdictAt p coil code conf s).1 := by
  unfold serveVerdictAt
  split
  · exact Within.refl _ s
  · split
    · exact Within.refl _ s
    · split
      · exact Within.refl _ s
      · exact answerVerdict_within s _ code conf

theorem servePerRecipe_within (number slot v : Nat) : Within [.slots, .psw] s (servePerRecipe number slot v s).1 := by
  unfold servePerRecipe
  split
  · exact Within.refl _ s
  · split
    · exact Within.refl _ s
    · simp only
      split
      · dsimp only
        exact writeSlot_within s _ _
      · exact Within.refl _ s

theorem serveParamWrite_within (number slot v : Nat) : Within [.line, .slots, .psw] s (serveParamWrite number slot v s).1 := by
  unfold serveParamWrite
  split
  · split
    · exact (storeLine_within s _ v).mono (by decide)
    · exact Within.refl _ s
  · exact Within.refl _ s
  · exact (servePerRecipe_within s number slot v).mono (by decide)
  · split <;> exact Within.refl _ s
  · exact Within.refl _ s

theorem serveStopMs_within (number slot v : Nat) : Within [.line, .pos] s (serveStopMs number slot v s).1 :=
  Within.seq (storeLine_within s .stopMs v) (modPos_within _ _) (by decide) (by decide)

theorem serveT64Run_within (number slot v : Nat) : Within [.line, .pos] s (serveT64Run number slot v s).1 :=
  Within.seq (storeLine_within s .t64Run v) (modPos_within _ _) (by decide) (by decide)

theorem serveGeometry_within (number slot v : Nat) : Within [.line] s (serveGeometry number slot v s).1 := by
  unfold serveGeometry
  split
  · exact Within.refl _ s
  · split
    · exact Within.refl _ s
    · simp only
      split
      · exact storeLine_within s _ v
      · exact Within.refl _ s

theorem serveHeatMax_within (number slot v : Nat) :
    Within [.line, .mag, .tab, .ecs, .arb, .alerts, .draws] s (serveHeatMax number slot v s).1 :=
  Within.seq (storeLine_within s .heatMax v) (heatMaxWritten_within _) (by decide) (by decide)

theorem freeSlotsFollow_within : Within [.slots] s s.freeSlotsFollow := by
  intro b hb
  cases b <;> first | exact rfl | exact ⟨rfl, rfl⟩ | exact absurd (by decide) hb

theorem serveRotorMax_within (number slot v : Nat) : Within [.line, .slots, .ecs] s (serveRotorMax number slot v s).1 := by
  unfold serveRotorMax
  split
  · exact Within.refl _ s
  · exact (evalDemand_within _).after (by decide)
      (Within.seq (storeLine_within s .rotorMaxRpm v) (freeSlotsFollow_within _) (by decide) (by decide))

theorem serveRotorBand_within (number slot v : Nat) : Within [.line, .ecs] s (serveRotorBand number slot v s).1 :=
  Within.seq (storeLine_within s .rotorBand v) (evalRotor_within _) (by decide) (by decide)

theorem serveClinkRate_within (number slot v : Nat) : Within [.line, .clink] s (serveClinkRate number slot v s).1 := by
  dsimp only [serveClinkRate, lineReply]
  exact Within.seq (storeLine_within s .clinkRate v) (modClink_within _ _) (by decide) (by decide)

theorem serveAuxFunction_within (number slot v : Nat) : Within [.line, .mag] s (serveAuxFunction number slot v s).1 :=
  Within.seq (modLine_within s _) (seeHot_within _) (by decide) (by decide)

theorem serveRouteWrite_within (slot row column bits : Nat) :
    Within [.slots, .psw] s (serveRouteWrite slot row column bits s).1 := by
  unfold serveRouteWrite
  split
  · simp only
    split
    · exact Within.refl _ s
    · split
      · exact Within.refl _ s
      · dsimp only
        exact writeSlot_within s _ _
  · exact Within.refl _ s

theorem serveRecipeCopy_within (source dest : Nat) : Within [.slots] s (serveRecipeCopy source dest s).1 := by
  unfold serveRecipeCopy
  split
  · split
    · dsimp only [recipeReply]
      exact modSlot_within s _ _
    · exact Within.refl _ s
  · exact Within.refl _ s

theorem serveRecipeArm_within (slot : Nat) : Within [.slots] s (serveRecipeArm slot s).1 := by
  unfold serveRecipeArm
  split
  · exact Within.refl _ s
  · split
    · split
      · exact Within.refl _ s
      · dsimp only [recipeReply]
        exact modSlot_within s _ _
    · exact Within.refl _ s
    · exact Within.refl _ s

/-- A pending switch is dropped. -/
theorem dropSwitch_within : Within [.psw] s (s.modRcp fun r => { r with psw := none }) := by
  intro b hb
  cases b <;> first | exact rfl | exact ⟨rfl, rfl⟩ | exact absurd (by decide) hb

theorem within_serveRecipeDisarm (slot : Nat) : Within [.slots, .psw] s (serveRecipeDisarm slot s).1 := by
  unfold serveRecipeDisarm
  split
  · exact Within.refl _ s
  · split
    · exact Within.seq (modSlot_within s _ _) (dropSwitch_within _) (by decide) (by decide)
    · exact Within.refl _ s
    · exact Within.refl _ s

theorem serveRecipeFree_within (slot : Nat) : Within [.slots] s (serveRecipeFree slot s).1 := by
  unfold serveRecipeFree
  split
  · exact Within.refl _ s
  · split
    · dsimp only [recipeReply]
      exact modSlot_within s _ _
    · split
      · exact Within.refl _ s
      · dsimp only [recipeReply]
        exact modSlot_within s _ _
    · exact Within.refl _ s
    · exact Within.refl _ s

/-- A switch position is set. -/
theorem setSwitch_within (p : W32) : Within [.psw] s (s.modRcp fun r => { r with psw := some p }) := by
  intro b hb
  cases b <;> first | exact rfl | exact ⟨rfl, rfl⟩ | exact absurd (by decide) hb

theorem serveRecipeSwitch_within (offset : Nat) :
    Within [.slots, .psw, .switchMark, .ecs] s (serveRecipeSwitch offset s).1 := by
  unfold serveRecipeSwitch
  split
  · exact Within.refl _ s
  · split
    · exact Within.refl _ s
    · split
      · exact Within.refl _ s
      · have h := (setSwitch_within s (after s.here (min maxOffset offset))).mono (bs := [.slots, .psw, .switchMark, .ecs])
          (by decide)
        exact Within.ite (h.trans (switchTakesEffect_within _)) h

theorem serveRecordOverride_within (tag bits : Nat) :
    Within [.tab, .arb, .ecs, .draws] s (serveRecordOverride tag bits s).1 := by
  unfold serveRecordOverride
  split
  · exact Within.refl _ s
  · split
    · exact Within.refl _ s
    · split
      · exact Within.refl _ s
      · split
        · exact Within.refl _ s
        · exact Within.refl _ s
        · split
          · exact Within.refl _ s
          · exact (replaceRoute_within s tag _).mono (by decide)
        · exact (modRecord_within s tag _).mono (by decide)
        · exact (modRecord_within s tag _).mono (by decide)

theorem serveRecordCancel_within (tag : Nat) :
    Within [.tab, .arb, .ecs, .jet, .seg, .slots] s (serveRecordCancel tag s).1 := by
  unfold serveRecordCancel
  split
  · exact Within.refl _ s
  · split
    · exact Within.refl _ s
    · split
      · exact Within.refl _ s
      · split
        · exact Within.refl _ s
        · exact cancelRecord_within s _

theorem serveCollect_within : Within [.tab, .slots, .ecs] s (serveCollect s).1 := by
  unfold serveCollect
  split
  · exact Within.refl _ s
  · split
    · exact Within.refl _ s
    · exact retire_within s _

theorem serveStationOffline_within (station command : Nat) :
    Within leavingBlocks s (serveStationOffline station command s).1 := by
  unfold serveStationOffline
  split
  · exact Within.refl _ s
  · split
    · exact goAll_within s _ _ _ _
    · exact Within.refl _ s

theorem serveStationOnline_within (station : Nat) : Within leavingBlocks s (serveStationOnline station s).1 := by
  unfold serveStationOnline
  split
  · exact Within.refl _ s
  · split
    · exact Within.refl _ s
    · exact censusOf_within s _

theorem clearActed_within : Within [.stations] s s.clearActed :=
  ((modStation_within s .m _).trans (modStation_within _ .e _)).trans (modStation_within _ .a _)

theorem serveCensus_within : Within leavingBlocks s (serveCensus s).1 := by
  unfold serveCensus
  split
  · exact Within.refl _ s
  · exact censusOf_within s _

/-- A request of a body of a fixed length reaches its link, and what its serving reaches. -/
theorem takeOfLength_within (l : Link) (row : Instr) (n : Nat) (serve : List Byte → State → State × Reply) (bs : List Block)
    (h : ∀ body t, Within bs t (serve body t).1) : Within (linkBlock l :: bs) s (s.takeRequest l row (ofLength n serve)) :=
  takeRequest_within l s row _ bs fun body t => ofLength_within t n serve bs h body

/-- A write of a parameter that has a row of its own reaches the supervisor link, and what its serving reaches. -/
theorem takeWrite_within (row : Instr) (serve : Nat → Nat → Nat → State → State × Reply) (bs : List Block)
    (h : ∀ number slot v t, Within bs t (serve number slot v t).1) : Within (.slink :: bs) s (s.takeWrite row serve) :=
  takeOfLength_within s .supervisor row 7 _ bs fun _ t => h _ _ _ t

end Writers

/-! ### Times and inputs -/

section Events
variable (s : State)

/-- The E-stop state and its filter are changed. -/
theorem setEstop_within (f : Lsig → Bool) (g : Lsig → Option W32) :
    Within [.estop] s (s.modLsig fun l => { l with estop := f l, estopFilter := g l }) := by
  intro b hb
  cases b <;> first | exact rfl | exact ⟨rfl, rfl⟩ | exact absurd (by decide) hb

/-- SWITCH_MARK ends. -/
theorem endSwitchMark_within : Within [.switchMark] s (s.modLsig fun l => { l with switchMark := none }) := by
  intro b hb
  cases b <;> first | exact rfl | exact ⟨rfl, rfl⟩ | exact absurd (by decide) hb

/-- A hard reset leaves the waiting commands and the draws. -/
theorem blank_within (levels : Inputs) : Within (reach (.hardReset levels)) s (State.blank levels s.draws s.pending) := by
  intro b hb
  cases b <;> first | exact rfl | exact absurd (by simp [reach]) hb

/-- With no record live, stations that take a new state concern no record, and no order is left open. -/
theorem goAll_of_no_records {s : State} (h : s.tab.records = []) (sts : List Station) (avail : Avail) (wait : Option W32)
    (why : Reason) : s.goAll sts avail wait why = sts.foldl (fun s st => s.goTo st avail wait why) s := by
  have hc : s.concernedBy sts why = [] := by simp [State.concernedBy, h]
  unfold State.goAll
  rw [hc]
  rfl

/-- With no record live, a census draws no order. -/
theorem censusOf_within_of_no_records {s : State} (h : s.tab.records = []) (sts : List Station) :
    Within [.stations, .tab, .arb, .mag, .ecs, .jet] s (s.censusOf sts) := by
  unfold State.censusOf
  rw [goAll_of_no_records h]
  refine (foldl_within _ (fun t st => goTo_within t st _ _ _) sts s).trans (foldl_within _ (fun t st => ?_) sts _)
  exact Within.ite ((becomeReady_within t st).mono (by decide)) (Within.refl _ t)

/-- A change of an OK input reaches the watch of its READY station, or the census. -/
theorem okAsserted_ite_within {bs : List Block} (st : Station) (level : Bool) (t : State) (h : ∀ b ∈ [Block.stations, .ecs], b ∈ bs) :
    Within bs t (if level then t.okAsserted st else t) :=
  Within.ite ((okAsserted_within t st).mono h) (Within.refl _ t)

end Events

/-! ### Every command -/

/-- Every command answers a next state, and what it changes lies within the blocks of its row. -/
theorem exec_completes (c : Instr) (s : State) : ∃ t, exec c s = .next t ∧ Within (reach c) s t := by
  refine match c with
  | .encoderEdge a b coils => ⟨_, rfl, ?edge⟩
  | .stopTimerExpiry => ⟨_, rfl, Within.ite (modPos_within s _) (Within.refl _ s)⟩
  | .segmentCompletion k => ⟨_, rfl, Within.ite (modMag_within s _) (Within.refl _ s)⟩
  | .heatStep => ⟨_, rfl, Within.ite ?heat (Within.refl _ s)⟩
  | .hotInputChange levels =>
    ⟨_, rfl, Within.seq (cs := [.inputs, .mag]) (modInputs_within s _) (seeHot_within _) (by decide) (by decide)⟩
  | .hotDebounceExpiry => ⟨_, rfl, Within.ite (modMag_within s _) (Within.refl _ s)⟩
  | .magOkChange level => ⟨_, rfl, Within.ite (Within.refl _ s) ?magOk⟩
  | .magOkWatchExpiry => ⟨_, rfl, Within.ite (Within.after (faultStation_within _ .m) (by decide)
      ((modMag_within s _).mono (by decide))) (Within.refl _ s)⟩
  | .tachEdge => ⟨_, rfl, tachEdge_within s⟩
  | .tachTimeout => ⟨_, rfl, Within.ite ((modEcs_within s _).trans (setSpeed_within _ _)) (Within.refl _ s)⟩
  | .economyTimerExpiry => ⟨_, rfl, Within.ite ((modEcs_within s _).trans (evalDemand_within _)) (Within.refl _ s)⟩
  | .spinUpWatchExpiry => ⟨_, rfl, Within.ite (Within.seq (modEcs_within s _) (latch_within _ _) (by decide) (by decide))
      (Within.refl _ s)⟩
  | .stallWatchExpiry => ⟨_, rfl, Within.ite (Within.after (faultStation_within _ .e) (by decide)
      (Within.seq (modEcs_within s _) (latch_within _ _) (by decide) (by decide))) (Within.refl _ s)⟩
  | .flapCompletion k => ⟨_, rfl, Within.ite (modEcs_within s _) (Within.refl _ s)⟩
  | .ecsOkChange drive flap => ⟨_, rfl, ?ecsOk⟩
  | .ecsOkWatchExpiry .drive => ⟨_, rfl, Within.ite (Within.after (faultStation_within _ .e) (by decide)
      ((modEcs_within s _).mono (by decide))) (Within.refl _ s)⟩
  | .ecsOkWatchExpiry .flap => ⟨_, rfl, Within.ite (Within.after (faultStation_within _ .e) (by decide)
      ((modEcs_within s _).mono (by decide))) (Within.refl _ s)⟩
  | .pulseOpen n => ⟨_, rfl, modPulses_within s _⟩
  | .pulseClose n => ⟨_, rfl, ?pulseClose⟩
  | .jetOkChange level => ⟨_, rfl, Within.ite (Within.refl _ s) ?jetOk⟩
  | .jetOkWatchExpiry => ⟨_, rfl, Within.ite (Within.after (faultStation_within _ .a) (by decide)
      ((modJet_within s _).mono (by decide))) (Within.refl _ s)⟩
  | .censusWaitExpiry st => ⟨_, rfl, Within.ite (Within.seq (cs := [.stations, .alerts]) (modStation_within s st _) (latch_within _ _)
      (by decide) (by decide)) (Within.refl _ s)⟩
  | .estopInputChange level => ⟨_, rfl, Within.ite (Within.refl _ s) (Within.seq (cs := [.inputs, .estop]) (modInputs_within s _)
      (setEstop_within _ (fun l => l.estop) _) (by decide) (by decide))⟩
  | .estopAsserted => ⟨_, rfl, Within.ite ?estop (Within.refl _ s)⟩
  | .estopReleased => ⟨_, rfl, Within.ite (Within.seq (setEstop_within s _ _) (evalDemand_within _) (by decide) (by decide))
      (Within.refl _ s)⟩
  | .switchMarkEnd => ⟨_, rfl, Within.ite (endSwitchMark_within s) (Within.refl _ s)⟩
  | .hardReset levels => ⟨_, rfl, Within.after (censusOf_within_of_no_records rfl _) (by simp [reach]) (blank_within s levels)⟩
  | .frameReceived l b stopBit => ⟨_, rfl, receiveByte_within l s b stopBit⟩
  | .frameDropped l b stopBit => ⟨_, rfl, receiveByte_within l s b stopBit⟩
  | .receiverByteTaken l b stopBit => ⟨_, rfl, receiveByte_within l s b stopBit⟩
  | .frameGapTimeout l => ⟨_, rfl, Within.ite (((modLink_within s l _).mono (by simp [reach])).trans (rxResult_within l _ _))
      (Within.refl _ s)⟩
  | .frameSent l => ⟨_, rfl, modLink_within s l _⟩
  | .verdict => ⟨_, rfl, takeOfLength_within s .classifier _ _ _ _ fun _ t => serveVerdict_within t _ _ _⟩
  | .verdictAt => ⟨_, rfl, takeOfLength_within s .classifier _ _ _ _ fun _ t => serveVerdictAt_within t _ _ _ _⟩
  | .locate => ⟨_, rfl, takeOfLength_within s .classifier _ _ _ _ fun _ t => .of_eq (serveLocate_state t _ _)⟩
  | .paramRead => ⟨_, rfl, takeOfLength_within s .supervisor _ _ _ _ fun _ t => .of_eq (serveParamRead_state t _ _)⟩
  | .paramWrite => ⟨_, rfl, takeWrite_within s _ _ _ fun n k v t => serveParamWrite_within t n k v⟩
  | .stopMsWrite => ⟨_, rfl, takeWrite_within s _ _ _ fun n k v t => serveStopMs_within t n k v⟩
  | .t64RunWrite => ⟨_, rfl, takeWrite_within s _ _ _ fun n k v t => serveT64Run_within t n k v⟩
  | .backlashMaxWrite => ⟨_, rfl, takeWrite_within s _ _ _ fun _ _ v t => storeLine_within t .backlashMax v⟩
  | .geometryWrite => ⟨_, rfl, takeWrite_within s _ _ _ fun n k v t => serveGeometry_within t n k v⟩
  | .heatMaxWrite => ⟨_, rfl, (takeWrite_within s _ _ _ fun n k v t => serveHeatMax_within t n k v).mono (by decide)⟩
  | .rotorMaxRpmWrite => ⟨_, rfl, takeWrite_within s _ _ _ fun n k v t => serveRotorMax_within t n k v⟩
  | .rotorBandWrite => ⟨_, rfl, takeWrite_within s _ _ _ fun n k v t => serveRotorBand_within t n k v⟩
  | .slinkRateWrite => ⟨_, rfl, takeWrite_within s _ _ _ fun _ _ v t => storeLine_within t .slinkRate v⟩
  | .clinkRateWrite => ⟨_, rfl, takeWrite_within s _ _ _ fun n k v t => serveClinkRate_within t n k v⟩
  | .alertMaskWrite =>
    ⟨_, rfl, takeWrite_within s _ _ _ fun _ _ v t => modLine_within t fun l => { l with alertMask := BitVec.ofNat 10 v }⟩
  | .auxFunctionWrite => ⟨_, rfl, takeWrite_within s _ _ _ fun n k v t => serveAuxFunction_within t n k v⟩
  | .routeRead => ⟨_, rfl, takeOfLength_within s .supervisor _ _ _ _ fun _ t => .of_eq (serveRouteRead_state t _ _ _)⟩
  | .routeWrite => ⟨_, rfl, takeOfLength_within s .supervisor _ _ _ _ fun _ t => serveRouteWrite_within t _ _ _ _⟩
  | .recipeCopy => ⟨_, rfl, takeOfLength_within s .supervisor _ _ _ _ fun _ t => serveRecipeCopy_within t _ _⟩
  | .recipeArm => ⟨_, rfl, takeOfLength_within s .supervisor _ _ _ _ fun _ t => serveRecipeArm_within t _⟩
  | .recipeDisarm => ⟨_, rfl, takeOfLength_within s .supervisor _ _ _ _ fun _ t => within_serveRecipeDisarm t _⟩
  | .recipeFree => ⟨_, rfl, (takeOfLength_within s .supervisor _ _ _ _ fun _ t => serveRecipeFree_within t _)⟩
  | .recipeSwitch => ⟨_, rfl, takeOfLength_within s .supervisor _ _ _ _ fun _ t => serveRecipeSwitch_within t _⟩
  | .recipeStatus => ⟨_, rfl, takeOfLength_within s .supervisor _ _ _ _ fun _ t => Within.refl _ t⟩
  | .recordRead => ⟨_, rfl, takeOfLength_within s .supervisor _ _ _ _ fun _ t => .of_eq (serveRecordRead_state t _)⟩
  | .recordFind => ⟨_, rfl, takeOfLength_within s .supervisor _ _ _ _ fun _ t => .of_eq (serveRecordFind_state t _ _)⟩
  | .recordOverride => ⟨_, rfl, takeOfLength_within s .supervisor _ _ _ _ fun _ t => serveRecordOverride_within t _ _⟩
  | .recordCancel => ⟨_, rfl, takeOfLength_within s .supervisor _ _ _ _ fun _ t => serveRecordCancel_within t _⟩
  | .collect => ⟨_, rfl, takeOfLength_within s .supervisor _ _ _ _ fun _ t => serveCollect_within t⟩
  | .tableSummary => ⟨_, rfl, takeOfLength_within s .supervisor _ _ _ _ fun _ t => Within.refl _ t⟩
  | .totalsRead => ⟨_, rfl, takeOfLength_within s .supervisor _ _ _ _ fun _ t => Within.refl _ t⟩
  | .totalsClear => ⟨_, rfl, takeOfLength_within s .supervisor _ _ _ _ fun _ t => modTotals_within t fun _ => Totals.zero⟩
  | .stationSetOffline => ⟨_, rfl, takeOfLength_within s .supervisor _ _ _ _ fun _ t => serveStationOffline_within t _ _⟩
  | .stationSetOnline => ⟨_, rfl, takeOfLength_within s .supervisor _ _ _ _ fun _ t => serveStationOnline_within t _⟩
  | .stationStatus => ⟨_, rfl, takeOfLength_within s .supervisor _ _ _ _ fun _ t => clearActed_within t⟩
  | .census => ⟨_, rfl, takeOfLength_within s .supervisor _ _ _ _ fun _ t => serveCensus_within t⟩
  | .status => ⟨_, rfl, takeOfLength_within s .supervisor _ _ _ _ fun _ t => Within.refl _ t⟩
  | .alertClear => ⟨_, rfl, takeOfLength_within s .supervisor _ _ _ _ fun _ t => clearAlerts_within t _⟩
  | .purge => ⟨_, rfl, takeOfLength_within s .supervisor _ _ _ _ fun _ t => purge_within t⟩
  | .restart => ⟨_, rfl, takeOfLength_within s .supervisor _ _ _ _ fun _ t => restart_within t⟩
  | .badKindRequest l => ⟨_, rfl, takeRequest_within l s _ _ _ fun _ t => Within.refl _ t⟩
  case edge =>
    exact Within.seq (modInputs_within s _) (Within.ite (Within.refl _ _) (acceptEdge_within coils _)) (by simp [reach])
      (by simp [reach])
  case heat => exact Within.seq (modMag_within s _) (heatStep_within _) (by simp [reach]) (by simp [reach])
  case magOk =>
    refine Within.after (as := [.mag, .stations, .ecs]) (Within.ite ?_ (okAsserted_ite_within _ _ _ (by simp))) (by simp [reach])
      ((modInputs_within s fun i => { i with magOk := level }).mono (by simp [reach]))
    exact (modMag_within _ _).mono (by simp)
  case ecsOk =>
    refine Within.after (as := [.ecs, .stations]) (Within.ite ?_ (okAsserted_ite_within _ _ _ (by simp))) (by simp [reach])
      ((modInputs_within s fun i => { i with driveOk := drive, flapOk := flap }).mono (by simp [reach]))
    exact (modEcs_within _ _).mono (by simp)
  case pulseClose =>
    show Within _ s (match closing s.now s.jet.pulses[n] with | none => s | some p => _)
    split
    · exact Within.refl _ s
    · exact Within.seq (modPulses_within s _) (each_within _ _ _ fun tag t => pulseClosed_within t tag) (by simp [reach]) (by simp [reach])
  case jetOk =>
    refine Within.after (as := [.jet, .stations, .ecs]) (Within.ite ?_ (okAsserted_ite_within _ _ _ (by simp))) (by simp [reach])
      ((modInputs_within s fun i => { i with jetOk := level }).mono (by simp [reach]))
    exact (modJet_within _ _).mono (by simp)
  case estop =>
    refine (goAll_within _ _ _ _ _).after (by decide) ((evalDemand_within _).after (by decide) ?_)
    exact Within.seq (setEstop_within s _ _) (latch_within _ _) (by decide) (by decide)

/-- What a command changes lies within the blocks of its row. -/
theorem exec_within {c : Instr} {s t : State} (h : exec c s = .next t) : Within (reach c) s t := by
  obtain ⟨u, hu, hw⟩ := exec_completes c s
  obtain rfl : u = t := Host.Outcome.next.inj (hu.symm.trans h)
  exact hw

end Sys2Proof.Machine

/-! ## The advance

What an edge at the encoder comes to, and what an advance brings about: all that falls at the new position, each thing once, in an
order that the manual allows. -/

namespace Sys2Proof.Machine

/-! ### The edge -/

/-- An edge that stands long enough after the last accepted one passes the glitch filter (R1). -/
theorem filtered_eq_false_iff (s : State) : s.filtered = false ↔ s.EdgeAccepted := by
  unfold State.filtered State.EdgeAccepted
  cases s.pos.lastEdge <;> simp

/-- The outcomes of the comparison of R2, each by the levels that it stands for. -/
theorem quadOf_null (accA accB : Bool) : quadOf accA accB accA accB = .null := by
  cases accA <;> cases accB <;> rfl

theorem quadOf_illegal (accA accB : Bool) : quadOf accA accB (!accA) (!accB) = .illegal := by
  cases accA <;> cases accB <;> rfl

theorem quadOf_forward (accA accB : Bool) : quadOf accA accB (!accB) accA = .forward := by
  cases accA <;> cases accB <;> rfl

theorem quadOf_reverse (accA accB : Bool) : quadOf accA accB accB (!accA) = .reverse := by
  cases accA <;> cases accB <;> rfl

/-- Only the next pair of the forward order counts forward (R2). -/
theorem forward_of_quadOf {s : State} {a b : Bool} (h : quadOf s.pos.accA s.pos.accB a b = .forward) : s.Forward a b := by
  unfold State.Forward
  revert h
  cases s.pos.accA <;> cases s.pos.accB <;> cases a <;> cases b <;> simp [quadOf, quarter]

/-- What an accepted edge counts (R2, R3, R4), once the pair has been sampled. -/
def State.counted (samples : Vector Sample 32) (s : State) : Quad → State
  | .null => s
  | .forward => s.forwardCount samples
  | .illegal => s.latch .encoder
  | .reverse => s.reverseCount

theorem counted_forward (samples : Vector Sample 32) (s : State) : s.counted samples .forward =
    if 0 < s.pos.backlash then s.modPos fun p => { p with backlash := p.backlash - 1 } else s.advance samples := rfl

theorem counted_reverse (samples : Vector Sample 32) (s : State) : s.counted samples .reverse =
    if s.pos.backlash < s.line.backlashMax then s.modPos fun p => { p with backlash := p.backlash + 1 } else s.latch .reverse := rfl

/-- An edge that the glitch filter rejects changes the levels alone (R1). -/
theorem exec_edge_of_filtered {s : State} (a b : Bool) (coils : Vector Sample 32) (h : s.filtered = true) :
    exec (.encoderEdge a b coils) s = .next { s with inputs := { s.inputs with encA := a, encB := b } } :=
  congrArg Host.Outcome.next (if_pos h)

/-- An accepted edge is sampled, and counts by the comparison of R2. -/
theorem exec_edge_of_accepted {s : State} (a b : Bool) (coils : Vector Sample 32) (h : s.EdgeAccepted) :
    exec (.encoderEdge a b coils) s = .next ((s.sampled a b).counted coils (quadOf s.pos.accA s.pos.accB a b)) := by
  have hf : s.filtered = false := (filtered_eq_false_iff s).mpr h
  have he : exec (.encoderEdge a b coils) s =
      .next ((s.modInputs fun i => { i with encA := a, encB := b }).acceptEdge coils) :=
    congrArg Host.Outcome.next (if_neg (show ¬ s.filtered = true by simp [hf]))
  rw [he]
  show Host.Outcome.next (match quadOf s.pos.accA s.pos.accB a b with
    | .null => s.sampled a b
    | .forward => (s.sampled a b).forwardCount coils
    | .illegal => (s.sampled a b).latch .encoder
    | .reverse => (s.sampled a b).reverseCount) = _
  cases quadOf s.pos.accA s.pos.accB a b <;> rfl

/-- A forward count with no backlash to pay off is an advance (R3). -/
theorem exec_edge_advances {s : State} {a b : Bool} (coils : Vector Sample 32) (h : s.EdgeAccepted) (hf : s.Forward a b)
    (hb : s.pos.backlash = 0) : exec (.encoderEdge a b coils) s = .next ((s.sampled a b).advance coils) := by
  obtain ⟨rfl, rfl⟩ := hf
  rw [exec_edge_of_accepted _ _ coils h, quadOf_forward]
  exact congrArg Host.Outcome.next (if_neg (by simp [State.sampled, hb]))

/-! ### The order of what falls together -/

/-- The place of a thing among those that R47 and R102 put in order. -/
def Event.rank : Event → Nat
  | .release _ => 1
  | .ends _ _ => 2
  | .tail _ => 1
  | _ => 0

theorem Event.rank_lt_of_before {d e : Event} (h : d.before e = true) : d.rank < e.rank := by
  cases d <;> cases e <;> simp_all [Event.before, Event.rank]

theorem mem_ripe {evs : List Event} {e : Event} : e ∈ ripe evs ↔ e ∈ evs ∧ ∀ d ∈ evs, d.before e = false := by
  simp [ripe]

/-- Of things that are still to come about one is always ripe: the order of R47 and R102 has no cycle. -/
theorem ripe_ne_nil {evs : List Event} (h : evs ≠ []) : ripe evs ≠ [] := by
  obtain ⟨e, he, hmin⟩ := Finset.exists_min_image evs.toFinset Event.rank (by simpa using h)
  have hr : e ∈ ripe evs := by
    refine mem_ripe.mpr ⟨by simpa using he, fun d hd => ?_⟩
    by_contra hb
    have := Event.rank_lt_of_before (by simpa using hb)
    have := hmin d (by simpa using hd)
    omega
  exact List.ne_nil_of_mem hr

/-- One thing comes about after the draws have gone on to a value: a step of an order of delivery. -/
def State.deliverOne (samples : Vector Sample 32) (s : State) (x : Event × Nat) : State :=
  ({ s with draws := x.2 } : State).bringAbout samples x.1

/-- The things that fall together all come about, each once, in an order that keeps R47 and R102. -/
theorem deliver_order (samples : Vector Sample 32) : ∀ (n : Nat) (evs : List Event) (s : State), evs.length = n →
    ∃ order : List (Event × Nat), (order.map Prod.fst).Perm evs ∧ (order.Pairwise fun x y => y.1.before x.1 = false) ∧
      s.deliver samples n evs = order.foldl (State.deliverOne samples) s
  | 0, evs, s, h => ⟨[], by simp [List.length_eq_zero_iff.mp h], .nil, rfl⟩
  | n + 1, evs, s, h => by
    have hne : evs ≠ [] := by rintro rfl; simp at h
    unfold State.deliver
    split
    · next hr => exact absurd hr (ripe_ne_nil hne)
    · next x xs hr =>
      have hm := State.choose_mem s x xs
      have hd := (State.choose_spec s x xs).2
      generalize hc : s.choose x xs = c at hm hd ⊢
      have hripe := mem_ripe.mp (hr ▸ hm)
      obtain ⟨order, hperm, hpair, hrun⟩ := deliver_order samples n (evs.erase c.1) (c.2.2.bringAbout samples c.1)
        (by rw [List.length_erase_of_mem hripe.1, h]; rfl)
      refine ⟨(c.1, c.2.2.draws) :: order, (hperm.cons c.1).trans (List.perm_cons_erase hripe.1).symm, ?_, ?_⟩
      · refine List.pairwise_cons.mpr ⟨fun y hy => hripe.2 y.1 ?_, hpair⟩
        exact List.mem_of_mem_erase (hperm.mem_iff.mp (List.mem_map_of_mem hy))
      · show State.deliver samples n (evs.erase c.1) (c.2.2.bringAbout samples c.1) =
          order.foldl (State.deliverOne samples) (({ s with draws := c.2.2.draws } : State).bringAbout samples c.1)
        rw [hrun, ← hd]

/-! ### What falls at a position -/

theorem mem_points {p : Line} {here : W32} {r : Record} {e : Event} : e ∈ r.points p here ↔
    ((r.state = .opened ∨ r.state = .pending) ∧ after r.f p.dDec = here ∧ e = .decision r.tag) ∨
    ((r.state = .opened ∨ r.state = .pending ∨ r.state = .routed) ∧ after r.f p.pHead = here ∧ e = .front r.tag) ∨
    ((r.state = .pending ∨ r.state = .routed ∨ r.state = .airborne) ∧ r.tailGone = false ∧
      (∃ c, r.closing = some c ∧ after c.t p.pHead = here) ∧ e = .tail r.tag) := by
  have ht : e ∈ Record.points.tail p here r ↔
      r.tailGone = false ∧ (∃ c, r.closing = some c ∧ after c.t p.pHead = here) ∧ e = .tail r.tag := by
    unfold Record.points.tail
    cases r.closing <;> simp [and_assoc, and_comm]
  have hd : e ∈ Record.points.decision p here r ↔ after r.f p.dDec = here ∧ e = .decision r.tag := by
    simp [Record.points.decision]
  have hf : e ∈ Record.points.front p here r ↔ after r.f p.pHead = here ∧ e = .front r.tag := by
    simp [Record.points.front]
  unfold Record.points
  cases r.state <;> simp [hd, hf, ht]

theorem mem_claimPoints {here : W32} {st : Station} {c : Claim} {e : Event} : e ∈ c.points here st ↔
    (c.start = here ∧ e = .begins c.owner st) ∨ (c.release = some here ∧ e = .release c.owner) ∨
    (c.stop = here ∧ e = .ends c.owner st) := by
  simp [Claim.points]

theorem mem_stationPoints {s : State} {st : Station} {e : Event} :
    e ∈ s.stationPoints st ↔ ∃ l ∈ s.arb.lists st, ∃ c ∈ l, e ∈ c.points s.here st := by
  simp [State.stationPoints]

/-- What falls at the present position, kind by kind. -/
theorem mem_events {s : State} {e : Event} : e ∈ s.events ↔
    (64 ≤ s.pos.groupCount ∧ e = .group) ∨ (s.here.toNat % 4 = 0 ∧ e = .scan) ∨ (s.rcp.psw = some s.here ∧ e = .switch) ∨
    (∃ r ∈ s.tab.records, e ∈ r.points s.line s.here) ∨ ∃ st, e ∈ s.stationPoints st := by
  have hst : (∃ st, e ∈ s.stationPoints st) ↔ e ∈ s.stationPoints .m ∨ e ∈ s.stationPoints .e ∨ e ∈ s.stationPoints .a :=
    ⟨fun ⟨st, h⟩ => by cases st <;> simp [h], by rintro (h | h | h) <;> exact ⟨_, h⟩⟩
  simp only [State.events, List.mem_append, List.mem_flatMap, hst]
  constructor
  · rintro ((((((h | h) | h) | h) | h) | h) | h) <;> simp_all
  · rintro (⟨h, rfl⟩ | ⟨h, rfl⟩ | ⟨h, rfl⟩ | h | h | h | h) <;> simp_all

/-- The events of records and claims are neither a completion nor a scan nor a switch. -/
theorem ne_of_mem_points {p : Line} {here : W32} {r : Record} {e : Event} (h : e ∈ r.points p here) :
    e ≠ .group ∧ e ≠ .scan ∧ e ≠ .switch := by
  rcases mem_points.mp h with ⟨-, -, rfl⟩ | ⟨-, -, rfl⟩ | ⟨-, -, -, rfl⟩ <;> simp

theorem ne_of_mem_stationPoints {s : State} {st : Station} {e : Event} (h : e ∈ s.stationPoints st) :
    e ≠ .group ∧ e ≠ .scan ∧ e ≠ .switch := by
  obtain ⟨l, -, c, -, hc⟩ := mem_stationPoints.mp h
  rcases mem_claimPoints.mp hc with ⟨-, rfl⟩ | ⟨-, rfl⟩ | ⟨-, rfl⟩ <;> simp

/-- The events of the records and of the claims at the present position. -/
def State.pointEvents (s : State) : List Event :=
  s.tab.records.flatMap (Record.points s.line s.here) ++ s.stationPoints .m ++ s.stationPoints .e ++ s.stationPoints .a

theorem ne_of_mem_pointEvents {s : State} {e : Event} (h : e ∈ s.pointEvents) : e ≠ .group ∧ e ≠ .scan ∧ e ≠ .switch := by
  simp only [State.pointEvents, List.mem_append, List.mem_flatMap] at h
  rcases h with ((⟨r, -, h⟩ | h) | h) | h
  · exact ne_of_mem_points h
  · exact ne_of_mem_stationPoints h
  · exact ne_of_mem_stationPoints h
  · exact ne_of_mem_stationPoints h

theorem events_eq (s : State) : s.events =
    (if 64 ≤ s.pos.groupCount then [.group] else []) ++ (if s.here.toNat % 4 = 0 then [.scan] else []) ++ s.pointEvents ++
      (if s.rcp.psw = some s.here then [.switch] else []) := by
  simp [State.events, State.pointEvents]

/-- A group completes once, where 64 advances have been counted. -/
theorem count_group_events (s : State) : s.events.count .group = if 64 ≤ s.pos.groupCount then 1 else 0 := by
  have hp : s.pointEvents.count .group = 0 := List.count_eq_zero.mpr fun h => (ne_of_mem_pointEvents h).1 rfl
  rw [events_eq]
  simp only [List.count_append, hp]
  split <;> split <;> split <;> simp

/-- A scan is made once, at a multiple of 4. -/
theorem count_scan_events (s : State) : s.events.count .scan = if s.here.toNat % 4 = 0 then 1 else 0 := by
  have hp : s.pointEvents.count .scan = 0 := List.count_eq_zero.mpr fun h => (ne_of_mem_pointEvents h).2.1 rfl
  rw [events_eq]
  simp only [List.count_append, hp]
  split <;> split <;> split <;> simp

/-! ### What each thing reaches -/

/-- What a point of a record or of a claim may reach. -/
abbrev pointBlocks : List Block := [.tab, .arb, .mag, .ecs, .jet, .stations, .draws]

/-- A thing that is neither a completion nor a scan nor a switch reaches records, claims and the stations' blocks alone. -/
theorem bringAbout_point_within (samples : Vector Sample 32) (s : State) {e : Event}
    (h : e ≠ .group ∧ e ≠ .scan ∧ e ≠ .switch) : Within pointBlocks s (s.bringAbout samples e) := by
  obtain ⟨hgroup, hscan, hswitch⟩ := h
  cases e with
  | group => exact absurd rfl hgroup
  | scan => exact absurd rfl hscan
  | switch => exact absurd rfl hswitch
  | decision tag => exact (decisionPoint_within s tag).mono (by decide)
  | begins tag st => exact (actionBegins_within s tag st).mono (by decide)
  | release tag => exact (liftReleased_within s tag).mono (by decide)
  | ends tag st => exact (actionEnds_within s tag st).mono (by decide)
  | front tag => exact (frontDeparts_within s tag).mono (by decide)
  | tail tag => exact (tailDeparts_within s tag).mono (by decide)

theorem bringAbout_at_scan (samples : Vector Sample 32) (s : State) : s.bringAbout samples .scan = s.scanBar samples := rfl

/-- Only the completion of a group reaches POS. -/
theorem bringAbout_pos (samples : Vector Sample 32) (s : State) {e : Event} (h : e ≠ .group) :
    (s.bringAbout samples e).pos = s.pos := by
  cases e with
  | group => exact absurd rfl h
  | scan => exact scanBar_within samples s .pos (by decide)
  | switch => exact switchPoint_within s .pos (by decide)
  | decision tag => exact bringAbout_point_within samples s (by simp) .pos (by decide)
  | begins tag st => exact bringAbout_point_within samples s (by simp) .pos (by decide)
  | release tag => exact bringAbout_point_within samples s (by simp) .pos (by decide)
  | ends tag st => exact bringAbout_point_within samples s (by simp) .pos (by decide)
  | front tag => exact bringAbout_point_within samples s (by simp) .pos (by decide)
  | tail tag => exact bringAbout_point_within samples s (by simp) .pos (by decide)

/-- Only a scan reaches SCAN. -/
theorem bringAbout_scan (samples : Vector Sample 32) (s : State) {e : Event} (h : e ≠ .scan) :
    (s.bringAbout samples e).scan = s.scan := by
  cases e with
  | scan => exact absurd rfl h
  | group => rfl
  | switch => exact switchPoint_within s .scan (by decide)
  | decision tag => exact bringAbout_point_within samples s (by simp) .scan (by decide)
  | begins tag st => exact bringAbout_point_within samples s (by simp) .scan (by decide)
  | release tag => exact bringAbout_point_within samples s (by simp) .scan (by decide)
  | ends tag st => exact bringAbout_point_within samples s (by simp) .scan (by decide)
  | front tag => exact bringAbout_point_within samples s (by simp) .scan (by decide)
  | tail tag => exact bringAbout_point_within samples s (by simp) .scan (by decide)

/-- What falls at an advance leaves the line-wide parameters. -/
theorem deliverOne_line (samples : Vector Sample 32) (s : State) (x : Event × Nat) : (s.deliverOne samples x).line = s.line :=
  bringAbout_within samples _ x.1 .line (by decide)

/-! ### POS at an advance -/

/-- POS after things have come about: it has completed a group as often as that was among them. -/
theorem foldl_deliverOne_pos (samples : Vector Sample 32) (order : List (Event × Nat)) : ∀ s : State,
    (order.foldl (State.deliverOne samples) s).pos =
      (Pos.completeGroup s.line.t64Run)^[(order.map Prod.fst).count .group] s.pos := by
  induction order with
  | nil => exact fun s => rfl
  | cons x order ih =>
    intro s
    rw [List.foldl_cons, ih, deliverOne_line, List.map_cons]
    by_cases hx : x.1 = .group
    · have hp : (s.deliverOne samples x).pos = Pos.completeGroup s.line.t64Run s.pos := by
        simp [State.deliverOne, hx, State.bringAbout]
      rw [hx, List.count_cons_self, Function.iterate_succ_apply, hp]
    · have hp : (s.deliverOne samples x).pos = s.pos := bringAbout_pos samples _ hx
      rw [List.count_cons_of_ne hx, hp]

/-- POS after an advance (R3, R11, R12): its own step, and the completion of a group where 64 advances have been counted. -/
theorem advance_pos (samples : Vector Sample 32) (s : State) : (s.advance samples).pos =
    if 64 ≤ s.pos.groupCount + 1 then (s.pos.step s.line.stopMs).completeGroup s.line.t64Run else s.pos.step s.line.stopMs := by
  have hu : ∀ u : State, (u.deliver samples u.events.length u.events).pos =
      if 64 ≤ u.pos.groupCount then u.pos.completeGroup u.line.t64Run else u.pos := by
    intro u
    obtain ⟨order, hperm, -, hrun⟩ := deliver_order samples _ u.events u rfl
    rw [hrun, foldl_deliverOne_pos, hperm.count_eq, count_group_events]
    split <;> rfl
  exact hu (s.modPos (Pos.step s.line.stopMs))

end Sys2Proof.Machine

/-! ## Steps

One step is a command executed, or a microsecond that passes; what every command keeps, every step keeps. -/

namespace Sys2Proof.Machine

/-- A step executes the command at the front of the queue, or one that the part has due, or lets a microsecond pass. -/
theorem step_cases {s t : State} (h : step s = .next t) :
    (∃ c rest, s.pending = c :: rest ∧ exec c { s with pending := rest } = .next t) ∨
    (∃ c ∈ s.internal, ∃ n, exec c { s with draws := n } = .next t) ∨ t = s.tick := by
  unfold step at h
  split at h
  · next c rest hp => exact .inl ⟨c, rest, hp, h⟩
  · split at h
    · exact .inr (.inr (Host.Outcome.next.inj h).symm)
    · next x xs hx =>
      refine .inr (.inl ⟨_, hx ▸ State.choose_mem s x xs, (s.choose x xs).2.2.draws, ?_⟩)
      rw [← (State.choose_spec s x xs).2]
      exact h

/-- A property that the queue and the draws do not touch is kept by every step, where every command and the tick keep it. -/
theorem step_keeps {P : State → Prop} (hq : ∀ s q n, P s → P { s with pending := q, draws := n })
    (hexec : ∀ c s t, P s → exec c s = .next t → P t) (htick : ∀ s, P s → P s.tick) {s t : State} (hs : P s)
    (h : step s = .next t) : P t := by
  rcases step_cases h with ⟨c, rest, -, he⟩ | ⟨c, -, n, he⟩ | rfl
  · exact hexec c _ t (hq s rest s.draws hs) he
  · exact hexec c _ t (hq s s.pending n hs) he
  · exact htick s hs

/-- A property that the links do not touch is kept by the taking of a request, where its serving keeps it. -/
theorem takeRequest_keeps {P : State → Prop} {l : Link} {row : Instr} {serve : List Byte → State → State × Reply} {s : State}
    (hl : ∀ k f s, P s → P (s.modLink k f)) (h : ∀ f s, rowOf l f = row → P s → P (serve f.body s).1) (hs : P s) :
    P (s.takeRequest l row serve) := by
  rcases s.takeRequest_cases l row serve with he | ⟨f, rest, -, -, hr, he⟩
  · rw [he]
    exact hs
  · rw [he]
    exact hl _ _ _ (h f _ hr (hl _ _ _ hs))

theorem ofLength_keeps {P : State → Prop} {n : Nat} {serve : List Byte → State → State × Reply} {body : List Byte} {s : State}
    (h : body.length = n → P (serve body s).1) (hs : P s) : P (ofLength n serve body s).1 := by
  unfold ofLength
  split
  · next hn => exact h hn
  · exact hs

/-- A property that the links do not touch is kept by a write of a parameter, where its serving keeps it. -/
theorem takeWrite_keeps {P : State → Prop} {row : Instr} {serve : Nat → Nat → Nat → State → State × Reply} {s : State}
    (hl : ∀ k f s, P s → P (s.modLink k f))
    (h : ∀ f slot v s, rowOf .supervisor f = row → f.body.length = 7 → P s → P (serve (halfAt f.body 0) slot v s).1) (hs : P s) :
    P (s.takeWrite row serve) :=
  takeRequest_keeps hl (fun f s hr hs => ofLength_keeps (fun hn => h f _ _ s hr hn hs) hs) hs

/-! ### Which parameter a row writes -/

/-- A PARAM_WRITE is served by the row of the number written. -/
theorem paramWriteRow_of_rowOf {f : Frame} {row : Instr} (h : rowOf .supervisor f = row) (hr : row = .paramWrite ∨ row = .geometryWrite) :
    paramWriteRow f.body = row := by
  have hrecipe : recipeRow f.body ≠ row := by
    unfold recipeRow
    rcases hr with rfl | rfl <;> split <;> simp
  have hstation : (if byteAt f.body 1 = 1 then Instr.stationSetOnline else .stationSetOffline) ≠ row := by
    rcases hr with rfl | rfl <;> split <;> simp
  simp only [rowOf, supervisorRow] at h
  split at h
  case h_2 => exact h
  case h_5 => exact absurd h hrecipe
  case h_14 => exact absurd h hstation
  all_goals rcases hr with rfl | rfl <;> simp at h

/-- HEAT_MAX is written by the row of its own. -/
theorem ne_heatMax_of_rowOf {f : Frame} {row : Instr} {p : LineParam} (h : rowOf .supervisor f = row)
    (hr : row = .paramWrite ∨ row = .geometryWrite) (hn : f.body.length = 7) (hp : lineParamOf (halfAt f.body 0) = some p) :
    p ≠ .heatMax := by
  rintro rfl
  have h24 : halfAt f.body 0 = 0x024 := by
    generalize halfAt f.body 0 = n at hp
    unfold lineParamOf at hp
    split at hp <;> first | rfl | simp at hp
  have hw := paramWriteRow_of_rowOf h hr
  rw [paramWriteRow, if_neg (by simpa using hn), h24] at hw
  rcases hr with rfl | rfl <;> simp at hw

end Sys2Proof.Machine

/-! ## The heat accounts

What each operation of the magnet does to a segment's account, to COOLING and to the drive, and from that the bound of R127 and R129. -/

namespace Sys2Proof.Machine

/-! ### One segment -/

/-- The account and COOLING stay, and the drive does not come on. -/
def Segment.Calmer (g g' : Segment) : Prop :=
  g'.heat = g.heat ∧ g'.cooling = g.cooling ∧ (g'.driven = true → g.driven = true)

/-- What the reaching of a limit does to a segment (R129): the account stays and the drive does not come on; COOLING begins where the
segment itself is hit, and its drive is off then. -/
def Segment.Limited (hit : Prop) (g g' : Segment) : Prop :=
  g'.heat = g.heat ∧ (g'.driven = true → g.driven = true) ∧ (g'.cooling = true ↔ g.cooling = true ∨ hit) ∧
    (hit → g'.driven = false)

/-- The bound of one account (R127, R129). -/
def Segment.Bounded (heatMax : Nat) (g : Segment) : Prop :=
  g.heat ≤ heatMax + 94 ∧ (g.cooling = false → g.heat < heatMax) ∧ (g.cooling = true → g.driven = false)

theorem Segment.Calmer.refl (g : Segment) : g.Calmer g := ⟨rfl, rfl, id⟩

theorem Segment.Calmer.trans {a b c : Segment} (h : a.Calmer b) (k : b.Calmer c) : a.Calmer c := by
  obtain ⟨hheat, hcool, hdrive⟩ := h
  obtain ⟨kheat, kcool, kdrive⟩ := k
  exact ⟨kheat.trans hheat, kcool.trans hcool, fun d => hdrive (kdrive d)⟩

theorem Segment.Limited.refl (g : Segment) : g.Limited False g := ⟨rfl, id, by simp, False.elim⟩

theorem Segment.Limited.trans {p q : Prop} {a b c : Segment} (h : a.Limited p b) (k : b.Limited q c) : a.Limited (p ∨ q) c := by
  obtain ⟨hheat, hdrive, hcool, hhit⟩ := h
  obtain ⟨kheat, kdrive, kcool, khit⟩ := k
  refine ⟨kheat.trans hheat, fun d => hdrive (kdrive d), by rw [kcool, hcool, or_assoc], ?_⟩
  rintro (hp | hq)
  · by_contra hc
    simpa [hhit hp] using kdrive (by simpa using hc)
  · exact khit hq

theorem Segment.Limited.congr {p q : Prop} {a b : Segment} (h : a.Limited p b) (hpq : p ↔ q) : a.Limited q b :=
  propext hpq ▸ h

theorem Segment.Bounded.calmer {heatMax : Nat} {g g' : Segment} (h : g.Bounded heatMax) (hc : g.Calmer g') : g'.Bounded heatMax := by
  obtain ⟨hbound, hbelow, hoff⟩ := h
  obtain ⟨hheat, hcool, hdrive⟩ := hc
  refine ⟨by omega, fun c => ?_, fun c => ?_⟩
  · have := hbelow (hcool ▸ c)
    omega
  · by_contra hd
    simpa [hoff (hcool ▸ c)] using hdrive (by simpa using hd)

theorem fall_driven (now : W32) (fallMs : Nat) (g : Segment) : (g.fall now fallMs).driven = false := rfl

theorem fallIfFree_calmer (now : W32) (fallMs : Nat) (g : Segment) : g.Calmer (g.fallIfFree now fallMs) := by
  unfold Segment.fallIfFree
  split
  · exact ⟨rfl, rfl, by simp [fall_driven]⟩
  · exact .refl g

theorem letGo_calmer (now : W32) (fallMs tag : Nat) (g : Segment) : g.Calmer (g.letGo now fallMs tag) :=
  fallIfFree_calmer now fallMs { g with holding := g.holding.filter fun t => t != tag }

theorem complete_calmer (g : Segment) : g.Calmer g.complete := by
  unfold Segment.complete
  split
  · next h => exact ⟨rfl, rfl, fun _ => by simp [Segment.driven, h]⟩
  · exact ⟨rfl, rfl, by simp [Segment.setPower, Segment.driven]⟩
  · exact ⟨rfl, rfl, id⟩

theorem watch_calmer (tag : Nat) (g : Segment) : g.Calmer (g.watch tag) := ⟨rfl, rfl, id⟩

/-- A lift on a segment that is not COOLING keeps its bound: it drives the segment below HEAT_MAX (R121). -/
theorem Segment.Bounded.lift {heatMax : Nat} {g : Segment} (h : g.Bounded heatMax) (hc : g.cooling = false) (now : W32)
    (riseMs tag : Nat) : (g.lift now riseMs tag).Bounded heatMax := by
  have hcool : (g.lift now riseMs tag).cooling = g.cooling := by
    unfold Segment.lift
    simp only
    split <;> rfl
  have hheat : (g.lift now riseMs tag).heat = g.heat := by
    unfold Segment.lift
    simp only
    split <;> rfl
  have hb := h.2.1 hc
  refine ⟨by omega, fun _ => by omega, fun c => ?_⟩
  rw [hcool, hc] at c
  exact absurd c (by simp)

/-- One heat step on a segment (R127, R130), the taking of a limit apart: the account stays within HEAT_MAX + 94, and below HEAT_MAX where
the segment is not driven and not COOLING. -/
theorem heatStep_account {duty heatMax : Nat} {g : Segment} (h : g.Bounded heatMax) (hd : 5 ≤ duty) (hm : 0 < heatMax) :
    (g.heatStep duty heatMax).heat ≤ heatMax + 94 ∧ (g.heatStep duty heatMax).driven = g.driven ∧
    ((g.heatStep duty heatMax).cooling = true → g.driven = false) ∧
    ((g.heatStep duty heatMax).cooling = false → (g.heatStep duty heatMax).heat < heatMax ∨
      g.driven = true ∧ heatMax ≤ g.heat + (100 - duty)) := by
  obtain ⟨hbound, hbelow, hoff⟩ := h
  unfold Segment.heatStep
  rcases hg : g.driven with _ | _
  · simp only [Bool.false_eq_true, if_false]
    refine ⟨by omega, hg, fun _ => trivial, fun c => .inl ?_⟩
    rcases hc : g.cooling with _ | _
    · have := hbelow hc
      omega
    · simp only [hc, Bool.true_and, decide_eq_false_iff_not] at c
      omega
  · have hc : g.cooling = false := by
      by_contra hc
      simp [hoff (by simpa using hc)] at hg
    have := hbelow hc
    simp only [if_true, true_and]
    exact ⟨by omega, hg, by simp [hc], fun _ => by omega⟩

/-! ### The bank -/

/-- Every segment is calmer. -/
def State.Calmer (s t : State) : Prop := ∀ k : Fin 8, s.mag.segments[k].Calmer t.mag.segments[k]

theorem State.Calmer.of_mag {s t : State} (h : t.mag = s.mag) : s.Calmer t := fun _ => h ▸ Segment.Calmer.refl _

theorem State.Calmer.of_segments {s t : State} (h : t.mag.segments = s.mag.segments) : s.Calmer t :=
  fun _ => h ▸ Segment.Calmer.refl _

theorem State.Calmer.refl (s : State) : s.Calmer s := .of_mag rfl

theorem State.Calmer.trans {s t u : State} (h : s.Calmer t) (k : t.Calmer u) : s.Calmer u := fun i => (h i).trans (k i)

/-- What makes every segment calmer, after a change that leaves the segments. -/
theorem State.Calmer.after {s t u : State} (k : t.Calmer u) (h : t.mag.segments = s.mag.segments) : s.Calmer u :=
  (State.Calmer.of_segments h).trans k

theorem State.Calmer.ite {s t u : State} {c : Prop} [Decidable c] (h : s.Calmer t) (k : s.Calmer u) :
    s.Calmer (if c then t else u) := by
  split
  · exact h
  · exact k

/-- What leaves the magnet alone leaves every segment. -/
theorem Within.calmer {bs : List Block} {s t : State} (h : Within bs s t) (hm : Block.mag ∉ bs) : s.Calmer t :=
  .of_mag (h .mag hm)

theorem modSegments_get (f : Nat → Segment → Segment) (s : State) (k : Fin 8) :
    (s.modSegments f).mag.segments[k] = f k s.mag.segments[k] := by
  simp

/-- A rewriting of every segment that makes each calmer. -/
theorem modSegments_calmer {f : Nat → Segment → Segment} (h : ∀ k g, Segment.Calmer g (f k g)) (s : State) :
    s.Calmer (s.modSegments f) := fun k => by
  rw [modSegments_get]
  exact h _ _

theorem foldl_calmer {α : Type} {f : State → α → State} (h : ∀ s x, State.Calmer s (f s x)) (xs : List α) :
    ∀ s, State.Calmer s (xs.foldl f s) := by
  induction xs with
  | nil => exact State.Calmer.refl
  | cons x xs ih => exact fun s => (h s x).trans (ih _)

theorem each_calmer {α : Type} {f : α → State → State} (h : ∀ x s, State.Calmer s (f x s)) (xs : List α) (s : State) :
    s.Calmer (s.each xs f) :=
  State.each_induct (P := s.Calmer) (fun _ _ hs => hs) xs f (fun x _ t ht => ht.trans (h x t)) s (.refl s)

theorem calmer_of_ite {p : Prop} [Decidable p] {g g' : Segment} (h : g.Calmer g') : g.Calmer (if p then g' else g) := by
  split
  · exact h
  · exact .refl g

section Operations
variable (s : State)

theorem State.letGo_calmer (tag : Nat) : s.Calmer (s.letGo tag) :=
  modSegments_calmer (fun _ g => calmer_of_ite (Sys2Proof.Machine.letGo_calmer _ _ tag g)) s

theorem holdOffBegins_calmer (tag : Nat) : s.Calmer (s.holdOffBegins tag) :=
  modSegments_calmer (fun _ g => calmer_of_ite (watch_calmer tag g)) s

theorem closeHoldOff_calmer (tag : Nat) : s.Calmer (s.closeHoldOff tag) :=
  modSegments_calmer (f := fun _ g => { g with watches := g.watches.filter fun w => w.owner != tag }) (fun _ _ => ⟨rfl, rfl, id⟩) s

theorem evalDemand_calmer : s.Calmer s.evalDemand := (evalDemand_within s).calmer (by decide)

theorem refuse_calmer (tag : Nat) (st : Station) (o : Result) : s.Calmer (s.refuse tag st o) :=
  (refuse_within s tag st o).calmer (by decide)

theorem cutLift_calmer (tag : Nat) : s.Calmer (s.cutLift tag) := (s.letGo_calmer tag).trans (refuse_calmer _ tag .m _)

theorem magnetReleases_calmer : s.Calmer s.magnetReleases :=
  modSegments_calmer (fun _ g => fallIfFree_calmer _ _ { g with holding := [], watches := [] }) s

theorem magnetRestarts_calmer : s.Calmer s.magnetRestarts :=
  (modSegments_calmer (f := fun _ g => { g with power := .off, holding := [], completion := none, watches := [] })
    (fun _ _ => ⟨rfl, rfl, by simp [Segment.driven]⟩) s).trans (.of_segments rfl)

theorem blockLeaves_calmer (st : Station) : s.Calmer (s.blockLeaves st) := by
  cases st with
  | m => exact (magnetReleases_calmer s).trans (.of_segments rfl)
  | e => exact .of_mag rfl
  | a => exact .of_mag rfl

theorem leaveReady_calmer (st : Station) (why : Reason) : s.Calmer (s.leaveReady st why) := by
  unfold State.leaveReady
  have h1 : ∀ (f : Table → Table) (g : Arb → Arb), s.Calmer ((((s.modTab f).modArb g).blockLeaves st).evalDemand) := fun f g =>
    ((blockLeaves_calmer ((s.modTab f).modArb g) st).after rfl).trans (evalDemand_calmer _)
  exact .ite ((h1 _ _).trans (foldl_calmer (fun t tag => (refreshNeed_within t tag).calmer (by decide)) _ _)) (h1 _ _)

theorem goTo_calmer (st : Station) (avail : Avail) (wait : Option W32) (why : Reason) : s.Calmer (s.goTo st avail wait why) := by
  have h1 := (modStation_within s st fun i => { i with avail := avail, wait := wait }).calmer (by decide)
  unfold State.goTo
  exact .ite (h1.trans (leaveReady_calmer _ st why)) h1

theorem goAll_calmer (sts : List Station) (avail : Avail) (wait : Option W32) (why : Reason) :
    s.Calmer (s.goAll sts avail wait why) :=
  (foldl_calmer (fun t st => goTo_calmer t st avail wait why) sts s).trans
    (each_calmer (fun tag t => (trySettle_within t tag).calmer (by decide)) _ _)

theorem becomeReady_calmer (st : Station) : s.Calmer (s.becomeReady st) := (becomeReady_within s st).calmer (by decide)

theorem censusOf_calmer (sts : List Station) : s.Calmer (s.censusOf sts) := by
  unfold State.censusOf
  exact (goAll_calmer s sts _ _ _).trans (foldl_calmer (fun t st => .ite (becomeReady_calmer t st) (.refl t)) sts _)

theorem faultStation_calmer (st : Station) : s.Calmer (s.faultStation st) := by
  unfold State.faultStation
  exact .ite ((goAll_calmer s [st] _ _ _).trans (.of_mag rfl)) (.refl s)

theorem okAsserted_calmer (st : Station) : s.Calmer (s.okAsserted st) := (okAsserted_within s st).calmer (by decide)

theorem seeHot_calmer : s.Calmer s.seeHot := by
  unfold State.seeHot
  exact .ite (.refl s) (.of_segments rfl)

theorem purge_calmer : s.Calmer s.purge := by
  unfold State.purge
  refine State.Calmer.trans (t := State.magnetReleases _) ((magnetReleases_calmer _).after rfl) ?_
  exact ((purgeNeed_within _).calmer (by decide)).after rfl

theorem restartBlocks_calmer : s.Calmer s.restartBlocks := by
  unfold State.restartBlocks
  refine State.Calmer.trans (t := State.magnetRestarts _) ((magnetRestarts_calmer _).after rfl) ?_
  exact .of_mag rfl

theorem restart_calmer : s.Calmer s.restart := by
  have h : s.Calmer s.purge.restartBlocks.lsigRestarts.evalDemand :=
    (purge_calmer s).trans ((restartBlocks_calmer _).trans (((lsigRestarts_within _).calmer (by decide)).trans
      (evalDemand_calmer _)))
  exact .ite h (h.trans (censusOf_calmer _ _))

theorem liftReleased_calmer (tag : Nat) : s.Calmer (s.liftReleased tag) := by
  unfold State.liftReleased
  split
  · exact .refl s
  · exact s.letGo_calmer tag

theorem stationEnds_calmer (tag : Nat) (k : ClaimKind) : s.Calmer (s.stationEnds tag k) := by
  cases k
  case holdOff => exact closeHoldOff_calmer s tag
  all_goals exact .of_mag rfl

theorem actionEnds_calmer (tag : Nat) (st : Station) : s.Calmer (s.actionEnds tag st) := by
  unfold State.actionEnds
  split
  · exact .refl s
  · refine State.Calmer.trans ?_ ((trySettle_within _ tag).calmer (by decide))
    refine State.Calmer.trans ?_ ((withdraw_within _ tag st).calmer (by decide))
    refine State.Calmer.trans ?_ (stationEnds_calmer _ tag _)
    split
    · exact (setOutcome_within s tag st _).calmer (by decide)
    · exact .refl s

end Operations

/-! ### Segments at their limit -/

/-- What the reaching of a limit does to every segment (R129): segment `k` is hit, and the drive of a segment that was not driven is off
already. -/
theorem limitReached_limited (k : Nat) (wasDriven : Bool) (s : State)
    (h : wasDriven = false → ∀ j : Fin 8, j.val = k → s.mag.segments[j].driven = false) (j : Fin 8) :
    s.mag.segments[j].Limited (j.val = k) (s.limitReached k wasDriven).mag.segments[j] := by
  have hcool : s.mag.segments[j].heat = ((s.modSegments fun j g => if j = k then { g with cooling := true } else g).latch
        .thermal).mag.segments[j].heat ∧
      ((s.modSegments fun j g => if j = k then { g with cooling := true } else g).latch .thermal).mag.segments[j].driven =
        s.mag.segments[j].driven ∧
      (((s.modSegments fun j g => if j = k then { g with cooling := true } else g).latch .thermal).mag.segments[j].cooling = true ↔
        s.mag.segments[j].cooling = true ∨ j.val = k) := by
    rw [State.latch_mag, modSegments_get]
    split <;> simp_all [Segment.driven]
  unfold State.limitReached
  generalize ((s.modSegments fun j g => if j = k then { g with cooling := true } else g).latch .thermal) = s1 at hcool ⊢
  obtain ⟨hheat, hdrive, hcool⟩ := hcool
  cases wasDriven with
  | false =>
    refine ⟨hheat.symm, fun d => by rwa [← hdrive], hcool, fun hj => ?_⟩
    exact hdrive.trans (h rfl j hj)
  | true =>
    have hcut := each_calmer (fun tag t => cutLift_calmer t tag) (s1.liftsOn k) s1 j
    show s.mag.segments[j].Limited (j.val = k) ((s1.each (s1.liftsOn k) State.cutLift).segmentFalls k).mag.segments[j]
    generalize s1.each (s1.liftsOn k) State.cutLift = s2 at hcut ⊢
    obtain ⟨cheat, ccool, cdrive⟩ := hcut
    rw [State.segmentFalls, modSegments_get]
    split
    · next hj =>
      refine ⟨cheat.trans hheat.symm, fun d => ?_, ?_, fun _ => fall_driven _ _ _⟩
      · exact absurd d (by simp [fall_driven])
      · rw [← hcool, ← ccool]
        rfl
    · next hj =>
      refine ⟨cheat.trans hheat.symm, fun d => by rw [← hdrive]; exact cdrive d, by rw [ccool, hcool], fun hk => absurd hk hj⟩

/-- What the reaching of several limits does to every segment, in whatever order they are taken. -/
theorem foldl_limitReached_limited {α : Type} (num : α → Nat) (wasDriven : α → Bool) (xs : List α) : ∀ s : State,
    (∀ x ∈ xs, wasDriven x = false → ∀ j : Fin 8, j.val = num x → s.mag.segments[j].driven = false) → ∀ j : Fin 8,
    s.mag.segments[j].Limited (∃ x ∈ xs, j.val = num x)
      (xs.foldl (fun s x => State.limitReached (num x) (wasDriven x) s) s).mag.segments[j] := by
  induction xs with
  | nil => exact fun s _ j => (Segment.Limited.refl _).congr (by simp)
  | cons x xs ih =>
    intro s h j
    have h1 := limitReached_limited (num x) (wasDriven x) s (h x List.mem_cons_self)
    refine ((h1 j).trans (ih _ (fun y hy hw i hi => ?_) j)).congr (by simp)
    have := h y (List.mem_cons_of_mem x hy) hw i hi
    by_contra hc
    have hd := (h1 i).2.1 (by simpa using hc)
    exact absurd hd (by simp only [this]; simp)

theorem each_limitReached_limited {α : Type} (num : α → Nat) (wasDriven : α → Bool) (xs : List α) (s : State)
    (h : ∀ x ∈ xs, wasDriven x = false → ∀ j : Fin 8, j.val = num x → s.mag.segments[j].driven = false) (j : Fin 8) :
    s.mag.segments[j].Limited (∃ x ∈ xs, j.val = num x)
      (s.each xs fun x => State.limitReached (num x) (wasDriven x)).mag.segments[j] := by
  obtain ⟨hperm, hstate⟩ := State.shuffle_spec xs.length xs s
  have hm : (s.shuffle xs.length xs).2.mag = s.mag := by rw [hstate]
  have hf := foldl_limitReached_limited num wasDriven (s.shuffle xs.length xs).1 (s.shuffle xs.length xs).2
    (fun x hx hw i hi => by rw [hm]; exact h x (hperm.mem_iff.mp hx) hw i hi) j
  rw [hm] at hf
  exact hf.congr (by simp [hperm.mem_iff])

end Sys2Proof.Machine

/-! ## The bound of the heat accounts

Every command keeps the accounts within HEAT_MAX + 94, with no COOLING segment's drive on (R127, R129). -/

namespace Sys2Proof.Machine

/-! ### Heat steps and limits -/

theorem mem_zipIdx_toList {α : Type} {n : Nat} (v : Vector α n) (x : α × Nat) :
    x ∈ v.toList.zipIdx ↔ ∃ k : Fin n, x = (v[k], k.val) := by
  rw [List.mem_zipIdx_iff_getElem?, List.getElem?_eq_some_iff]
  constructor
  · rintro ⟨hk, hx⟩
    exact ⟨⟨x.2, by simpa using hk⟩, Prod.ext (by simpa using hx.symm) rfl⟩
  · rintro ⟨k, rfl⟩
    exact ⟨by simp, by simp⟩

theorem mem_atLimit (s : State) (k : Fin 8) : k.val ∈ s.atLimit ↔
    s.mag.segments[k].driven = true ∧ s.line.heatMax ≤ s.mag.segments[k].heat + (100 - s.duty) := by
  simp only [State.atLimit, List.mem_filterMap, mem_zipIdx_toList]
  constructor
  · rintro ⟨x, ⟨j, rfl⟩, hx⟩
    split at hx
    · next hc =>
      obtain rfl : j = k := Fin.ext (by simpa using hx)
      simpa using hc
    · simp at hx
  · intro h
    exact ⟨_, ⟨k, rfl⟩, by simpa using h⟩

theorem mem_overNewLimit (s : State) (x : Nat × Bool) : x ∈ s.overNewLimit ↔ ∃ k : Fin 8,
    x = (k.val, s.mag.segments[k].driven) ∧ s.mag.segments[k].cooling = false ∧ s.line.heatMax ≤ s.mag.segments[k].heat := by
  simp only [State.overNewLimit, List.mem_filterMap, mem_zipIdx_toList]
  constructor
  · rintro ⟨y, ⟨j, rfl⟩, hy⟩
    split at hy
    · next hc => exact ⟨j, by simpa using hy.symm, by simpa using hc⟩
    · simp at hy
  · rintro ⟨k, rfl, h⟩
    exact ⟨_, ⟨k, rfl⟩, by simpa using h⟩

/-- The permitted duty is one of the two duties (R126). -/
theorem duty_ge {s : State} {n : Nat} (hn : n ≤ s.line.dutyNorm) (hh : n ≤ s.line.dutyHot) : n ≤ s.duty := by
  unfold State.duty
  split <;> omega

/-- A segment whose account had no bound to keep but HEAT_MAX + 94, and is hit where it stands at HEAT_MAX or above, is bounded. -/
theorem Segment.Limited.bounded {hit : Prop} {heatMax : Nat} {g g' : Segment} (h : g.Limited hit g') (hbound : g.heat ≤ heatMax + 94)
    (hoff : g.cooling = true → g.driven = false) (hhit : g.cooling = false → g.heat < heatMax ∨ hit) : g'.Bounded heatMax := by
  obtain ⟨hheat, hdrive, hcool, hfalls⟩ := h
  refine ⟨by omega, fun c => ?_, fun c => ?_⟩
  · have hn : ¬ (g.cooling = true ∨ hit) := fun h => by simp [hcool.mpr h] at c
    have := hhit (by simpa using fun h => hn (.inl h))
    rcases this with h | h
    · omega
    · exact absurd (.inr h) hn
  · rcases hcool.mp c with h | h
    · by_contra hd
      simpa [hoff h] using hdrive (by simpa using hd)
    · exact hfalls h

theorem State.HeatBounded.calmer {s t : State} (h : s.HeatBounded) (hc : s.Calmer t) (hl : t.line = s.line) : t.HeatBounded := by
  obtain ⟨hsegments, hduties⟩ := h
  unfold State.HeatBounded
  rw [hl]
  exact ⟨fun k => Segment.Bounded.calmer (hsegments k) (hc k), hduties⟩

/-- What leaves the magnet and the line's parameters keeps the accounts bounded. -/
theorem State.HeatBounded.within {bs : List Block} {s t : State} (h : s.HeatBounded) (hw : Within bs s t)
    (hb : Block.mag ∉ bs ∧ Block.line ∉ bs) : t.HeatBounded :=
  h.calmer (hw.calmer hb.1) (hw .line hb.2)

/-- A heat step keeps the accounts bounded (R127, R129). -/
theorem heatStep_bounded {s : State} (h : s.HeatBounded) : s.heatStep.HeatBounded := by
  have hline : s.heatStep.line = s.line := heatStep_within s .line (by decide)
  obtain ⟨hsegments, hnorm, hhot, hmax⟩ := h
  unfold State.HeatBounded
  rw [hline]
  refine ⟨fun k => ?_, hnorm, hhot, hmax⟩
  obtain ⟨hheat, hdriven, hoff, hbelow⟩ := heatStep_account (hsegments k) (duty_ge hnorm hhot) (by omega)
  have hl := each_limitReached_limited id (fun _ => true) s.atLimit
    (s.modSegments fun _ g => g.heatStep s.duty s.line.heatMax) (by simp) k
  rw [modSegments_get] at hl
  refine Segment.Limited.bounded hl hheat (fun c => hdriven.trans (hoff c)) fun c => ?_
  exact (hbelow c).imp_right fun hk => ⟨k.val, (mem_atLimit s k).mpr hk, rfl⟩

/-- The effects of a written HEAT_MAX bring the accounts within the new limit (R131). -/
theorem heatMaxWritten_bounded {s : State} (hoff : ∀ k : Fin 8, s.mag.segments[k].cooling = true → s.mag.segments[k].driven = false)
    (hnorm : 5 ≤ s.line.dutyNorm) (hhot : 5 ≤ s.line.dutyHot) (hmax : 1000 ≤ s.line.heatMax) : s.heatMaxWritten.HeatBounded := by
  have hline : s.heatMaxWritten.line = s.line := heatMaxWritten_within s .line (by decide)
  unfold State.HeatBounded
  rw [hline]
  refine ⟨fun k => ?_, hnorm, hhot, hmax⟩
  have hcap : ∀ j : Fin 8, (s.modSegments fun _ g => { g with heat := min g.heat (s.line.heatMax + 94) }).mag.segments[j] =
      { s.mag.segments[j] with heat := min s.mag.segments[j].heat (s.line.heatMax + 94) } := fun j => modSegments_get _ s j
  have hl1 : (s.modSegments fun _ g => { g with heat := min g.heat (s.line.heatMax + 94) }).line = s.line := rfl
  have hfinal : s.heatMaxWritten = ((s.modSegments fun _ g => { g with heat := min g.heat (s.line.heatMax + 94) }).each
      (s.modSegments fun _ g => { g with heat := min g.heat (s.line.heatMax + 94) }).overNewLimit
        fun x => State.limitReached x.1 x.2).modSegments fun _ g =>
          if g.cooling && decide (g.heat ≤ s.line.heatMax / 2) then { g with cooling := false } else g := rfl
  rw [hfinal, modSegments_get]
  generalize (s.modSegments fun _ g => { g with heat := min g.heat (s.line.heatMax + 94) }) = s1 at hcap hl1
  have hover := mem_overNewLimit s1
  have hl := each_limitReached_limited Prod.fst Prod.snd s1.overNewLimit s1 (fun x hx hw j hj => by
    obtain ⟨i, rfl, -⟩ := (hover x).mp hx
    obtain rfl : j = i := Fin.ext hj
    exact hw) k
  have hb : Segment.Bounded s.line.heatMax (s1.each s1.overNewLimit fun x => State.limitReached x.1 x.2).mag.segments[k] := by
    refine hl.bounded ?_ ?_ fun c => ?_
    · rw [hcap]
      exact Nat.min_le_right _ _
    · rw [hcap]
      exact hoff k
    · by_cases hlow : s1.mag.segments[k].heat < s.line.heatMax
      · exact .inl hlow
      · exact .inr ⟨_, (hover _).mpr ⟨k, rfl, c, by rw [hl1]; omega⟩, rfl⟩
  obtain ⟨hheat, hbelow, hoff'⟩ := hb
  split
  · next hc =>
    simp only [Bool.and_eq_true, decide_eq_true_eq] at hc
    exact ⟨hheat, fun _ => by simp only; omega, fun c => absurd c (by simp)⟩
  · exact ⟨hheat, hbelow, hoff'⟩

/-- A LIFT that begins drives no COOLING segment (R121). -/
theorem liftBegins_bounded {s : State} (tag : Nat) (h : s.HeatBounded) : (s.liftBegins tag).HeatBounded := by
  unfold State.liftBegins
  split
  · exact h.within (refuse_within s tag .m _) (by decide)
  · next hcold =>
    obtain ⟨hsegments, hduties⟩ := h
    refine ⟨fun k => ?_, hduties⟩
    rw [modSegments_get]
    split
    · next hheld =>
      refine Segment.Bounded.lift (hsegments k) ?_ _ _ tag
      have hk : (s.mag.segments[k], k.val) ∈ s.mag.segments.toList.zipIdx := (mem_zipIdx_toList _ _).mpr ⟨k, rfl⟩
      by_contra hc
      exact hcold (List.any_eq_true.mpr ⟨_, hk, by simp only [hheld, Bool.and_true]; simpa using hc⟩)
    · exact hsegments k

/-! ### What falls at an advance -/

theorem stationBegins_bounded {s : State} (tag : Nat) (k : ClaimKind) (h : s.HeatBounded) : (s.stationBegins tag k).HeatBounded := by
  cases k with
  | lift => exact liftBegins_bounded tag h
  | holdOff => exact h.calmer (holdOffBegins_calmer s tag) rfl
  | near => exact h.within (flapsBegin_within s tag true) (by decide)
  | far => exact h.within (flapsBegin_within s tag false) (by decide)
  | eject => exact h
  | guard => exact h

theorem actionBegins_bounded {s : State} (tag : Nat) (st : Station) (h : s.HeatBounded) : (s.actionBegins tag st).HeatBounded := by
  unfold State.actionBegins
  split
  · exact h
  · refine State.HeatBounded.within ?_ (trySettle_within _ tag) (by decide)
    exact stationBegins_bounded tag _ (h.calmer (.of_mag rfl) rfl)

theorem bringAbout_bounded (samples : Vector Sample 32) {s : State} (e : Event) (h : s.HeatBounded) :
    (s.bringAbout samples e).HeatBounded := by
  cases e with
  | group => exact h
  | scan => exact h.within (scanBar_within samples s) (by decide)
  | decision tag => exact h.within (decisionPoint_within s tag) (by decide)
  | begins tag st => exact actionBegins_bounded tag st h
  | release tag => exact h.calmer (liftReleased_calmer s tag) (liftReleased_within s tag .line (by decide))
  | ends tag st => exact h.calmer (actionEnds_calmer s tag st) (actionEnds_within s tag st .line (by decide))
  | front tag => exact h.within (frontDeparts_within s tag) (by decide)
  | tail tag => exact h.within (tailDeparts_within s tag) (by decide)
  | switch => exact h.within (switchPoint_within s) (by decide)

theorem advance_bounded (samples : Vector Sample 32) {s : State} (h : s.HeatBounded) : (s.advance samples).HeatBounded :=
  State.deliver_induct (P := State.HeatBounded) (fun _ _ h => h) samples (fun e _ h => bringAbout_bounded samples e h) _ _ _ h

/-- An edge, whatever it counts, keeps what the levels, POS and the latches do not touch and an advance keeps. -/
theorem edge_keeps {P : State → Prop} {a b : Bool} {coils : Vector Sample 32} {s t : State}
    (hrest : ∀ s t, Within [.inputs, .pos, .alerts] s t → P s → P t) (hadvance : ∀ s, P s → P (s.advance coils)) (hs : P s)
    (h : exec (.encoderEdge a b coils) s = .next t) : P t := by
  by_cases hf : s.filtered = true
  · rw [exec_edge_of_filtered a b coils hf] at h
    obtain rfl := Host.Outcome.next.inj h
    exact hrest s _ ((modInputs_within s fun i => { i with encA := a, encB := b }).mono (by decide)) hs
  · rw [exec_edge_of_accepted a b coils ((filtered_eq_false_iff s).mp (by simpa using hf))] at h
    obtain rfl := Host.Outcome.next.inj h
    have hsampled : P (s.sampled a b) := by
      refine hrest s _ (Within.seq (u := s.sampled a b) (modInputs_within s fun i => { i with encA := a, encB := b })
        (modPos_within _ fun p => { p with lastEdge := some p.time, accA := a, accB := b }) ?_ ?_) hs <;> decide
    cases quadOf s.pos.accA s.pos.accB a b with
    | null => exact hsampled
    | forward =>
      rw [counted_forward]
      split
      · exact hrest _ _ ((modPos_within _ _).mono (by decide)) hsampled
      · exact hadvance _ hsampled
    | illegal => exact hrest _ _ ((latch_within _ .encoder).mono (by decide)) hsampled
    | reverse =>
      rw [counted_reverse]
      split
      · exact hrest _ _ ((modPos_within _ _).mono (by decide)) hsampled
      · exact hrest _ _ ((latch_within _ .reverse).mono (by decide)) hsampled

/-! ### Parameter writes -/

theorem holdIn_mem {r : Nat × Nat} (h : r.1 ≤ r.2) (v : Nat) : r.1 ≤ holdIn r v ∧ holdIn r v ≤ r.2 := by
  unfold holdIn
  omega

/-- What the heat accounts and POS ask of the line's parameters (R97). -/
def Line.Limits (l : Line) : Prop := 5 ≤ l.dutyNorm ∧ 5 ≤ l.dutyHot ∧ 1000 ≤ l.heatMax ∧ l.backlashMax ≤ 4096

theorem storeLine_limits (p : LineParam) (v : Nat) {s : State} (h : s.line.Limits) : (s.storeLine p v).line.Limits := by
  obtain ⟨hnorm, hhot, hmax, hback⟩ := h
  have hr := holdIn_mem (r := p.range) (by cases p <;> decide) v
  show (p.set (s.line.store p v) s.line).Limits
  cases p <;> first | exact ⟨hnorm, hhot, hmax, hback⟩ | skip
  case backlashMax => exact ⟨hnorm, hhot, hmax, hr.2⟩
  case dutyNorm => exact ⟨hr.1, hhot, hmax, hback⟩
  case dutyHot => exact ⟨hnorm, hr.1, hmax, hback⟩
  case heatMax => exact ⟨hnorm, hhot, hr.1, hback⟩

theorem storeLine_heatMax {p : LineParam} (v : Nat) (s : State) (h : p ≠ .heatMax) :
    (s.storeLine p v).line.heatMax = s.line.heatMax := by
  show (p.set (s.line.store p v) s.line).heatMax = s.line.heatMax
  cases p <;> first | rfl | exact absurd rfl h

end Sys2Proof.Machine

/-! ## The measures of POS and SCAN

Every command keeps what POS and SCAN hold in the ranges of their tables (R4, R11, R20, R23, R24), and with it the heat accounts. -/

namespace Sys2Proof.Machine

/-! ### POS -/

/-- What POS holds lies in the ranges of the table of chapter 1. -/
def Pos.InRange (p : Pos) : Prop :=
  p.groupCount ≤ 63 ∧ p.completionsSeen ≤ 2 ∧ 3200 ≤ p.t64 ∧ p.t64 ≤ 1048575 ∧ p.backlash ≤ 4096

theorem Pos.InRange.stop {p : Pos} (h : p.InRange) : p.stop.InRange := by
  obtain ⟨-, -, -, -, hback⟩ := h
  exact ⟨by simp [Pos.stop], by simp [Pos.stop], by simp [Pos.stop], by simp [Pos.stop], hback⟩

theorem Pos.InRange.newStopMs {p : Pos} (h : p.InRange) (stopMs : Nat) : (p.newStopMs stopMs).InRange := by
  unfold Pos.newStopMs
  split
  · exact h
  · simp only
    split
    · exact h.stop
    · exact h

theorem Pos.InRange.restart {p : Pos} : p.restart.InRange := by
  simp [Pos.restart, Pos.InRange]

/-- A step of POS, and the completion of a group at its 64th advance, stay in range (R11). -/
theorem Pos.InRange.advance {p : Pos} (h : p.InRange) (stopMs t64Run : Nat) :
    (if 64 ≤ p.groupCount + 1 then (p.step stopMs).completeGroup t64Run else p.step stopMs).InRange := by
  obtain ⟨hgroup, hseen, hlow, hhigh, hback⟩ := h
  split
  · unfold Pos.completeGroup
    simp only
    split
    · exact ⟨Nat.zero_le _, Nat.min_le_left _ _, hlow, hhigh, hback⟩
    · exact ⟨Nat.zero_le _, Nat.min_le_left _ _, by simp only [holdT64]; omega, Nat.min_le_left _ _, hback⟩
  · next hn => exact ⟨by simp only [Pos.step]; omega, hseen, hlow, hhigh, hback⟩

/-! ### SCAN -/

/-- What a coil holds lies in the ranges of the table of chapter 2. -/
def Coil.InRange (c : Coil) : Prop := c.k ≤ 1048575 ∧ c.stuck ≤ 1000 ∧ (c.faulted = true → c.active = false)

/-- What SCAN holds lies in the ranges of the table of chapter 2. -/
def Scan.InRange (b : Scan) : Prop := b.settling ≤ 64 ∧ ∀ k : Fin 32, b.coils[k].InRange

theorem Coil.InRange.scan {c : Coil} (h : c.InRange) (p : RecipeParams) (settling : Nat) {amp : Nat} (hamp : amp ≤ 4095) :
    (c.scan p settling amp).InRange := by
  obtain ⟨hk, hstuck, -⟩ := h
  have htrack : c.track amp ≤ 1048575 := Nat.min_le_left _ _
  have hafter : c.stuckAfter amp ≤ 1000 := by
    unfold Coil.stuckAfter
    split
    · exact Nat.min_le_left _ _
    · exact Nat.zero_le _
  unfold Coil.scan
  split
  · exact ⟨hk, hstuck, fun _ => rfl⟩
  · next hf =>
    simp only
    split
    · exact ⟨hk, hafter, fun _ => rfl⟩
    · split
      · refine ⟨?_, hafter, fun _ => rfl⟩
        simp only
        split <;> omega
      · split
        · exact ⟨hk, hafter, fun c => absurd c hf⟩
        · exact ⟨htrack, hafter, fun _ => rfl⟩

/-- A scan judges the coils by the ACTIVE slot's parameters and counts itself; what SEG does leaves SCAN (R20 to R24). -/
theorem scanBar_scan (samples : Vector Sample 32) (s : State) :
    (s.scanBar samples).scan =
      { coils := s.scan.judge s.activeParams samples, settling := min 64 (s.scan.settling + 1) } := by
  have h : ∀ u : State, (u.segment s.activeParams (s.scan.readings s.activeParams samples)).scan = u.scan :=
    fun u => segment_within _ _ u .scan (by decide)
  unfold State.scanBar
  simp only [h]
  split <;> rfl

theorem Scan.judge_get (p : RecipeParams) (samples : Vector Sample 32) (b : Scan) (k : Fin 32) :
    (b.judge p samples)[k] = b.coils[k].scan p b.settling samples[k].amp.toNat := by
  simp [Scan.judge]

theorem scanBar_inRange (samples : Vector Sample 32) {s : State} (h : s.scan.InRange) : (s.scanBar samples).scan.InRange := by
  rw [scanBar_scan]
  refine ⟨Nat.min_le_left _ _, fun k => ?_⟩
  show (s.scan.judge s.activeParams samples)[k].InRange
  rw [Scan.judge_get]
  exact (h.2 k).scan _ _ (by have := samples[k].amp.isLt; omega)

theorem advance_scan_inRange (samples : Vector Sample 32) {s : State} (h : s.scan.InRange) : (s.advance samples).scan.InRange := by
  have hone : ∀ (e : Event) (s : State), s.scan.InRange → (s.bringAbout samples e).scan.InRange := by
    intro e s h
    by_cases he : e = .scan
    · rw [he, bringAbout_at_scan]
      exact scanBar_inRange samples h
    · rw [bringAbout_scan samples s he]
      exact h
  have hall := State.deliver_induct (P := fun s => s.scan.InRange) (fun _ _ h => h) samples hone
  let s1 := s.modPos (Pos.step s.line.stopMs)
  exact hall s1.events.length s1.events s1 h

theorem Scan.InRange.restart {b : Scan} (h : b.InRange) : b.restart.InRange := by
  refine ⟨Nat.zero_le _, fun k => ?_⟩
  have hk : b.restart.coils[k] = { b.coils[k] with active := false, stuck := 0, faulted := false } := by
    simp [Scan.restart]
  rw [hk]
  exact ⟨(h.2 k).1, Nat.zero_le _, fun _ => rfl⟩

/-! ### The accounts and the measures together -/

/-- The heat accounts are bounded and the measures in range. -/
def State.AccountsSound (s : State) : Prop := s.HeatBounded ∧ s.MeasuresInRange

theorem measuresInRange_iff (s : State) : s.MeasuresInRange ↔ s.pos.InRange ∧ s.line.backlashMax ≤ 4096 ∧ s.scan.InRange := Iff.rfl

theorem State.AccountsSound.limits {s : State} (h : s.AccountsSound) : s.line.Limits := by
  obtain ⟨⟨-, hnorm, hhot, hmax⟩, -, hback, -⟩ := h
  exact ⟨hnorm, hhot, hmax, hback⟩

theorem State.AccountsSound.segments {s : State} (h : s.AccountsSound) (k : Fin 8) : s.mag.segments[k].Bounded s.line.heatMax := by
  obtain ⟨⟨hsegments, -⟩, -⟩ := h
  exact hsegments k

/-- No COOLING segment's drive is on (R129). -/
theorem State.AccountsSound.cooling_off {s : State} (h : s.AccountsSound) (k : Fin 8) (hc : s.mag.segments[k].cooling = true) :
    s.mag.segments[k].driven = false := by
  obtain ⟨-, -, hoff⟩ := h.segments k
  exact hoff hc

theorem State.AccountsSound.pos {s : State} (h : s.AccountsSound) : s.pos.InRange := by
  obtain ⟨-, hpos, -⟩ := h
  exact hpos

theorem State.AccountsSound.scan {s : State} (h : s.AccountsSound) : s.scan.InRange := by
  obtain ⟨-, -, -, hscan⟩ := h
  exact hscan

/-- What makes every segment calmer, keeps HEAT_MAX, and leaves measures in range keeps accounts and measures. -/
theorem State.AccountsSound.kept {s t : State} (h : s.AccountsSound) (hc : s.Calmer t) (hp : t.pos.InRange) (hs : t.scan.InRange)
    (hl : t.line.Limits) (hm : t.line.heatMax = s.line.heatMax) : t.AccountsSound := by
  obtain ⟨hnorm, hhot, hmax, hback⟩ := hl
  refine ⟨⟨fun k => ?_, hnorm, hhot, hmax⟩, hp, hback, hs⟩
  rw [hm]
  exact (h.segments k).calmer (hc k)

/-- What leaves POS, SCAN and the line's parameters, and makes every segment calmer, keeps accounts and measures. -/
theorem State.AccountsSound.calmer {bs : List Block} {s t : State} (h : s.AccountsSound) (hw : Within bs s t) (hc : s.Calmer t)
    (hb : Block.pos ∉ bs ∧ Block.scan ∉ bs ∧ Block.line ∉ bs) : t.AccountsSound := by
  obtain ⟨hpos, hscan, hline⟩ := hb
  have hl : t.line = s.line := hw .line hline
  refine h.kept hc ?_ ?_ ?_ (by rw [hl])
  · rw [show t.pos = s.pos from hw .pos hpos]
    exact h.pos
  · rw [show t.scan = s.scan from hw .scan hscan]
    exact h.scan
  · rw [hl]
    exact h.limits

/-- What leaves POS, SCAN, the magnet and the line's parameters keeps accounts and measures. -/
theorem State.AccountsSound.within {bs : List Block} {s t : State} (h : s.AccountsSound) (hw : Within bs s t)
    (hb : (Block.pos ∉ bs ∧ Block.scan ∉ bs ∧ Block.line ∉ bs) ∧ Block.mag ∉ bs) : t.AccountsSound :=
  h.calmer hw (hw.calmer hb.2) hb.1

/-- What leaves the measures alone, and keeps the accounts bounded, keeps both. -/
theorem State.AccountsSound.heated {bs : List Block} {s t : State} (h : s.AccountsSound) (hw : Within bs s t) (ht : t.HeatBounded)
    (hb : Block.pos ∉ bs ∧ Block.scan ∉ bs ∧ Block.line ∉ bs) : t.AccountsSound := by
  obtain ⟨hpos, hscan, hline⟩ := hb
  have hl : t.line = s.line := hw .line hline
  refine ⟨ht, ?_⟩
  rw [measuresInRange_iff, show t.pos = s.pos from hw .pos hpos, show t.scan = s.scan from hw .scan hscan, hl]
  exact h.2

theorem State.AccountsSound.modLink {s : State} (l : Link) (f : LinkState → LinkState) (h : s.AccountsSound) :
    (s.modLink l f).AccountsSound :=
  h.within (modLink_within s l f) (by cases l <;> decide)

/-- A change of POS alone that stays in range. -/
theorem State.AccountsSound.modPos {s : State} (h : s.AccountsSound) (f : Pos → Pos) (hf : (f s.pos).InRange) :
    (s.modPos f).AccountsSound :=
  h.kept (.of_mag rfl) hf h.scan h.limits rfl

/-- A change of the line's parameters alone that keeps HEAT_MAX and the limits. -/
theorem State.AccountsSound.storeLine {s : State} (h : s.AccountsSound) {p : LineParam} (v : Nat) (hp : p ≠ .heatMax) :
    (s.storeLine p v).AccountsSound :=
  h.kept (.of_mag rfl) h.pos h.scan (storeLine_limits p v h.limits) (storeLine_heatMax v s hp)

/-! ### The commands that reach them -/

theorem edge_accountsSound {a b : Bool} {coils : Vector Sample 32} {s t : State} (h : s.AccountsSound)
    (he : exec (.encoderEdge a b coils) s = .next t) : t.AccountsSound := by
  have hline : t.line = s.line := exec_within he .line (by simp [reach])
  have hheat : t.HeatBounded := edge_keeps (fun s t hw h => h.within hw (by decide)) (fun s h => advance_bounded coils h) h.1 he
  have hscan : t.scan.InRange := edge_keeps (P := fun s => s.scan.InRange)
    (fun s t hw h => (show t.scan = s.scan from hw .scan (by decide)) ▸ h) (fun s h => advance_scan_inRange coils h) h.scan he
  refine ⟨hheat, ?_⟩
  rw [measuresInRange_iff, hline]
  obtain ⟨-, -, -, hmax⟩ := h.limits
  refine ⟨?_, hmax, hscan⟩
  have hp : s.pos.InRange := h.pos
  obtain ⟨hgroup, hseen, hlow, hhigh, hback⟩ := h.pos
  by_cases hf : s.filtered = true
  · rw [exec_edge_of_filtered a b coils hf] at he
    exact Host.Outcome.next.inj he ▸ hp
  · rw [exec_edge_of_accepted a b coils ((filtered_eq_false_iff s).mp (by simpa using hf))] at he
    obtain rfl := Host.Outcome.next.inj he
    cases quadOf s.pos.accA s.pos.accB a b with
    | null => exact hp
    | forward =>
      rw [counted_forward]
      split
      · exact ⟨hgroup, hseen, hlow, hhigh, show s.pos.backlash - 1 ≤ 4096 by omega⟩
      · rw [advance_pos]
        exact Pos.InRange.advance (p := (s.sampled a b).pos) hp _ _
    | illegal => exact hp
    | reverse =>
      rw [counted_reverse]
      split
      · next hlt =>
        have hlt : s.pos.backlash < s.line.backlashMax := hlt
        exact ⟨hgroup, hseen, hlow, hhigh, show s.pos.backlash + 1 ≤ 4096 by omega⟩
      · exact hp

theorem blank_accountsSound (levels : Inputs) (draws : Nat) (pending : List Instr) : (State.blank levels draws pending).AccountsSound := by
  have hline : (State.blank levels draws pending).line = Line.default := rfl
  refine ⟨⟨fun k => ?_, ?_⟩, ?_, ?_, ?_, fun k => ?_⟩
  · have hk : (State.blank levels draws pending).mag.segments[k] = Segment.reset := by simp [State.blank, Mag.reset]
    rw [hk, hline]
    decide
  · rw [hline]
    decide
  · simp [State.blank, Pos.reset]
  · rw [hline]
    decide
  · exact Nat.zero_le _
  · have hk : (State.blank levels draws pending).scan.coils[k] = Coil.reset := by simp [State.blank, Scan.reset]
    rw [hk]
    decide

/-- After the blocks' own parts, RESTART reaches what LSIG's part and the census reach. -/
theorem restart_after_blocks (s : State) :
    Within ([.ecs, .alerts, .switchMark] ++ leavingBlocks) s.purge.restartBlocks s.restart := by
  have h1 : Within ([.ecs, .alerts, .switchMark] ++ leavingBlocks) s.purge.restartBlocks
      s.purge.restartBlocks.lsigRestarts.evalDemand :=
    Within.seq (lsigRestarts_within _) (evalDemand_within _) (by decide) (by decide)
  exact Within.ite h1 ((censusOf_within _ _).after (by decide) h1)

theorem restart_accountsSound {s : State} (h : s.AccountsSound) : s.restart.AccountsSound := by
  have hw := restart_within s
  have hline : s.restart.line = s.line := hw .line (by decide)
  have hblocks : s.purge.restartBlocks.pos.InRange ∧ s.purge.restartBlocks.scan.InRange := by
    refine ⟨Pos.InRange.restart, Scan.InRange.restart ?_⟩
    have hs : s.purge.scan = s.scan := purge_within s .scan (by decide)
    exact hs ▸ h.scan
  have hafter := restart_after_blocks s
  refine h.kept (restart_calmer s) ?_ ?_ ?_ (by rw [hline])
  · rw [show s.restart.pos = s.purge.restartBlocks.pos from hafter .pos (by decide)]
    exact hblocks.1
  · rw [show s.restart.scan = s.purge.restartBlocks.scan from hafter .scan (by decide)]
    exact hblocks.2
  · rw [hline]
    exact h.limits

/-- A request that makes every segment calmer within a frame that leaves POS, SCAN and the line's parameters. -/
theorem takeCalmer_accountsSound {l : Link} {row : Instr} {n : Nat} {serve : List Byte → State → State × Reply} {bs : List Block}
    {s : State} (h : s.AccountsSound) (hw : ∀ body t, Within bs t (serve body t).1) (hc : ∀ body t, State.Calmer t (serve body t).1)
    (hb : Block.pos ∉ bs ∧ Block.scan ∉ bs ∧ Block.line ∉ bs) : (s.takeRequest l row (ofLength n serve)).AccountsSound :=
  takeRequest_keeps (fun k f _ h => h.modLink k f) (fun _ t _ h => ofLength_keeps (fun _ => h.calmer (hw _ t) (hc _ t) hb) h) h

theorem serveStationOffline_calmer (station command : Nat) (s : State) : s.Calmer (serveStationOffline station command s).1 := by
  unfold serveStationOffline
  split
  · exact .refl s
  · split
    · exact goAll_calmer s _ _ _ _
    · exact .refl s

theorem serveStationOnline_calmer (station : Nat) (s : State) : s.Calmer (serveStationOnline station s).1 := by
  unfold serveStationOnline
  split
  · exact .refl s
  · split
    · exact .refl s
    · exact censusOf_calmer s _

theorem serveCensus_calmer (s : State) : s.Calmer (serveCensus s).1 := by
  unfold serveCensus
  split
  · exact .refl s
  · exact censusOf_calmer s _

theorem serveParamWrite_accountsSound {f : Frame} {slot v : Nat} {s : State} (hr : rowOf .supervisor f = .paramWrite)
    (hn : f.body.length = 7) (h : s.AccountsSound) : (serveParamWrite (halfAt f.body 0) slot v s).1.AccountsSound := by
  unfold serveParamWrite
  split
  · split
    · next p hp => exact h.storeLine v (ne_heatMax_of_rowOf hr (.inl rfl) hn hp)
    · exact h
  · exact h
  · exact h.within (servePerRecipe_within s _ slot v) (by decide)
  · split <;> exact h
  · exact h

theorem serveGeometry_accountsSound {f : Frame} {slot v : Nat} {s : State} (hr : rowOf .supervisor f = .geometryWrite)
    (hn : f.body.length = 7) (h : s.AccountsSound) : (serveGeometry (halfAt f.body 0) slot v s).1.AccountsSound := by
  unfold serveGeometry
  split
  · exact h
  · next p hp =>
    split
    · exact h
    · simp only
      split
      · exact h.storeLine v (ne_heatMax_of_rowOf hr (.inr rfl) hn hp)
      · exact h

theorem serveHeatMax_accountsSound (number slot v : Nat) {s : State} (h : s.AccountsSound) :
    (serveHeatMax number slot v s).1.AccountsSound := by
  obtain ⟨hnorm, hhot, hmax, hback⟩ := storeLine_limits .heatMax v h.limits
  have hb := heatMaxWritten_bounded (s := s.storeLine .heatMax v) (fun k => h.cooling_off k) hnorm hhot hmax
  have hw := heatMaxWritten_within (s.storeLine .heatMax v)
  refine ⟨hb, ?_⟩
  show (s.storeLine .heatMax v).heatMaxWritten.MeasuresInRange
  have hline : (s.storeLine .heatMax v).heatMaxWritten.line = (s.storeLine .heatMax v).line := hw .line (by decide)
  rw [measuresInRange_iff, hw .pos (by decide), hw .scan (by decide), hline]
  exact ⟨h.pos, hback, h.scan⟩

theorem serveRotorMax_accountsSound (number slot v : Nat) {s : State} (h : s.AccountsSound) :
    (serveRotorMax number slot v s).1.AccountsSound := by
  unfold serveRotorMax
  split
  · exact h
  · exact State.AccountsSound.within (State.AccountsSound.within (h.storeLine v (by simp)) (freeSlotsFollow_within _) (by decide))
      (evalDemand_within _) (by decide)

/-- Every command keeps the heat accounts bounded and the measures in range. -/
theorem exec_accountsSound {c : Instr} {s t : State} (h : s.AccountsSound) (he : exec c s = .next t) : t.AccountsSound := by
  have hw := exec_within he
  have hlink : ∀ (k : Link) (f : LinkState → LinkState) (s : State), s.AccountsSound → (s.modLink k f).AccountsSound :=
    fun k f s h => h.modLink k f
  cases c
  case encoderEdge a b coils => exact edge_accountsSound h he
  all_goals obtain rfl := Host.Outcome.next.inj he
  case stopTimerExpiry =>
    split
    · exact h.modPos _ h.pos.stop
    · exact h
  case segmentCompletion k =>
    refine h.calmer hw ?_ (by simp [reach])
    refine .ite (fun j => ?_) (.refl s)
    rcases eq_or_ne j k with rfl | hne
    · simpa using complete_calmer s.mag.segments[j]
    · simp [Fin.val_ne_of_ne hne.symm, Segment.Calmer.refl]
  case heatStep =>
    refine h.heated hw ?_ (by decide)
    split
    · exact heatStep_bounded (h.1.calmer (.of_segments rfl) rfl)
    · exact h.1
  case hotInputChange levels => exact h.calmer hw ((seeHot_calmer _).after rfl) (by simp [reach])
  case hotDebounceExpiry => exact h.calmer hw (.ite (.of_segments rfl) (.refl s)) (by decide)
  case magOkChange level =>
    refine h.calmer hw (.ite (.refl s) (.ite (.of_segments rfl) (.ite ((okAsserted_calmer _ _).after rfl) (.of_segments rfl))))
      (by simp [reach])
  case magOkWatchExpiry => exact h.calmer hw (.ite ((faultStation_calmer _ _).after rfl) (.refl s)) (by decide)
  case stallWatchExpiry => exact h.calmer hw (.ite ((faultStation_calmer _ _).after rfl) (.refl s)) (by decide)
  case ecsOkWatchExpiry which =>
    refine h.calmer hw ?_ (by simp [reach, leavingBlocks])
    cases which <;> exact .ite ((faultStation_calmer _ _).after rfl) (.refl s)
  case jetOkWatchExpiry => exact h.calmer hw (.ite ((faultStation_calmer _ _).after rfl) (.refl s)) (by decide)
  case estopAsserted =>
    refine h.calmer hw (.ite (State.Calmer.trans ?_ (goAll_calmer _ _ _ _ _)) (.refl s)) (by decide)
    exact (evalDemand_calmer _).after rfl
  case hardReset levels =>
    have hb := blank_accountsSound levels s.draws s.pending
    exact hb.calmer (censusOf_within _ _) (censusOf_calmer _ _) (by decide)
  case paramWrite => exact takeWrite_keeps hlink (fun f slot v s hr hn h => serveParamWrite_accountsSound hr hn h) h
  case stopMsWrite => exact takeWrite_keeps hlink (fun f slot v s _ _ h => (h.storeLine v (by simp)).modPos _ (h.pos.newStopMs _)) h
  case t64RunWrite => exact takeWrite_keeps hlink (fun f slot v s _ _ h => (h.storeLine v (by simp)).modPos _ h.pos) h
  case backlashMaxWrite => exact takeWrite_keeps hlink (fun f slot v s _ _ h => h.storeLine v (by simp)) h
  case geometryWrite => exact takeWrite_keeps hlink (fun f slot v s hr hn h => serveGeometry_accountsSound hr hn h) h
  case heatMaxWrite => exact takeWrite_keeps hlink (fun f slot v s _ _ h => serveHeatMax_accountsSound _ slot v h) h
  case rotorMaxRpmWrite => exact takeWrite_keeps hlink (fun f slot v s _ _ h => serveRotorMax_accountsSound _ slot v h) h
  case rotorBandWrite =>
    exact takeWrite_keeps hlink (fun f slot v s _ _ h => (h.storeLine v (by simp)).within (evalRotor_within _) (by decide)) h
  case slinkRateWrite => exact takeWrite_keeps hlink (fun f slot v s _ _ h => h.storeLine v (by simp)) h
  case clinkRateWrite =>
    refine takeWrite_keeps hlink (fun f slot v s _ _ h => ?_) h
    dsimp only [serveClinkRate, lineReply]
    exact (h.storeLine v (p := .clinkRate) (by simp)).within (modClink_within _ _) (by decide)
  case alertMaskWrite =>
    exact takeWrite_keeps hlink (fun f slot v s _ _ h => h.kept (.of_mag rfl) h.pos h.scan h.limits rfl) h
  case auxFunctionWrite =>
    refine takeWrite_keeps hlink (fun f slot v s _ _ h => ?_) h
    dsimp only [serveAuxFunction]
    refine State.AccountsSound.calmer ?_ (seeHot_within _) (seeHot_calmer _) (by decide)
    exact h.kept (.of_mag rfl) h.pos h.scan h.limits rfl
  case stationSetOffline =>
    exact takeCalmer_accountsSound h (fun _ t => serveStationOffline_within t _ _) (fun _ t => serveStationOffline_calmer _ _ t) (by decide)
  case stationSetOnline =>
    exact takeCalmer_accountsSound h (fun _ t => serveStationOnline_within t _) (fun _ t => serveStationOnline_calmer _ t) (by decide)
  case census => exact takeCalmer_accountsSound h (fun _ t => serveCensus_within t) (fun _ t => serveCensus_calmer t) (by decide)
  case purge => exact takeCalmer_accountsSound h (fun _ t => purge_within t) (fun _ t => purge_calmer t) (by decide)
  case restart =>
    exact takeRequest_keeps hlink (fun _ t _ h => ofLength_keeps (fun _ => restart_accountsSound h) h) h
  case frameReceived l _ _ | frameDropped l _ _ | receiverByteTaken l _ _ | frameGapTimeout l | frameSent l | badKindRequest l =>
    exact h.within hw (by cases l <;> simp [reach, linkBlock])
  all_goals exact h.within hw (by simp [reach])

/-- Settles O58: every command keeps the accounts and the measures, and the tick moves the time counter alone. -/
theorem heatAndMeasuresStayBounded : Obligations.HeatAndMeasuresStayBounded := by
  intro s t _ hheat hmeasures h
  exact step_keeps (P := State.AccountsSound) (fun _ _ _ h => h) (fun _ _ _ h he => exec_accountsSound h he)
    (fun s h => h.kept (.of_segments rfl) h.pos h.scan h.limits rfl) ⟨hheat, hmeasures⟩ h

end Sys2Proof.Machine

/-! ## The statements about the encoder, the position and the time -/

namespace Sys2Proof.Machine

/-! ### Edges -/

/-- Settles O5: an edge that is rejected changes the levels alone, and one that is accepted is sampled and counts by its quadrant. -/
theorem edgesThatDoNotAdvance : Obligations.EdgesThatDoNotAdvance := by
  intro a b coils s
  refine ⟨fun e he hlt => exec_edge_of_filtered a b coils ?_, fun hacc => ⟨?null, ?illegal, ?taken, ?discarded, ?paid⟩⟩
  · by_contra hf
    have := (filtered_eq_false_iff s).mp (by simpa using hf) e he
    omega
  case null =>
    rintro rfl rfl
    rw [exec_edge_of_accepted _ _ coils hacc, quadOf_null]
    rfl
  case illegal =>
    intro ha hb
    obtain rfl : a = !s.pos.accA := Bool.eq_not.mpr ha
    obtain rfl : b = !s.pos.accB := Bool.eq_not.mpr hb
    rw [exec_edge_of_accepted _ _ coils hacc, quadOf_illegal]
    rfl
  case taken =>
    rintro ⟨rfl, rfl⟩ hlt
    rw [exec_edge_of_accepted _ _ coils hacc, quadOf_reverse]
    exact congrArg Host.Outcome.next (if_pos hlt)
  case discarded =>
    rintro ⟨rfl, rfl⟩ hge
    rw [exec_edge_of_accepted _ _ coils hacc, quadOf_reverse]
    exact congrArg Host.Outcome.next (if_neg (Nat.not_lt.mpr hge))
  case paid =>
    rintro ⟨rfl, rfl⟩ hpos
    rw [exec_edge_of_accepted _ _ coils hacc, quadOf_forward]
    exact congrArg Host.Outcome.next (if_pos hpos)

/-! ### The advance -/

/-- POS after the edge of an advance (R3, R11, R12). -/
theorem sampled_advance_pos (coils : Vector Sample 32) (a b : Bool) (s : State) : ((s.sampled a b).advance coils).pos =
    if 64 ≤ s.pos.groupCount + 1 then ((s.sampled a b).pos.step s.line.stopMs).completeGroup s.line.t64Run
    else (s.sampled a b).pos.step s.line.stopMs :=
  advance_pos coils (s.sampled a b)

theorem step_belt_ne_stopped (stopMs : Nat) (p : Pos) : (p.step stopMs).belt ≠ .stopped := by
  simp only [Pos.step]
  split
  · simp
  · assumption

/-! ### What falls at a position, kind by kind -/

theorem decision_mem_events {s : State} {tag : Nat} : Event.decision tag ∈ s.events ↔
    ∃ r ∈ s.tab.records, r.tag = tag ∧ (r.state = .opened ∨ r.state = .pending) ∧ after r.f s.line.dDec = s.here := by
  simp only [mem_events, mem_points, mem_stationPoints, mem_claimPoints]
  simp only [reduceCtorEq, and_false, or_false, false_or, exists_false, Event.decision.injEq]
  constructor
  · rintro ⟨r, hr, hst, hat, rfl⟩
    exact ⟨r, hr, rfl, hst, hat⟩
  · rintro ⟨r, hr, rfl, hst, hat⟩
    exact ⟨r, hr, hst, hat, rfl⟩

theorem front_mem_events {s : State} {tag : Nat} : Event.front tag ∈ s.events ↔
    ∃ r ∈ s.tab.records, r.tag = tag ∧ (r.state = .opened ∨ r.state = .pending ∨ r.state = .routed) ∧
      after r.f s.line.pHead = s.here := by
  simp only [mem_events, mem_points, mem_stationPoints, mem_claimPoints]
  simp only [reduceCtorEq, and_false, or_false, false_or, exists_false, Event.front.injEq]
  constructor
  · rintro ⟨r, hr, hst, hat, rfl⟩
    exact ⟨r, hr, rfl, hst, hat⟩
  · rintro ⟨r, hr, rfl, hst, hat⟩
    exact ⟨r, hr, hst, hat, rfl⟩

theorem tail_mem_events {s : State} {tag : Nat} : Event.tail tag ∈ s.events ↔
    ∃ r ∈ s.tab.records, r.tag = tag ∧ (r.state = .pending ∨ r.state = .routed ∨ r.state = .airborne) ∧
      r.tailGone = false ∧ ∃ c, r.closing = some c ∧ after c.t s.line.pHead = s.here := by
  simp only [mem_events, mem_points, mem_stationPoints, mem_claimPoints]
  simp only [reduceCtorEq, and_false, or_false, false_or, exists_false, Event.tail.injEq]
  constructor
  · rintro ⟨r, hr, hst, hgone, hat, rfl⟩
    exact ⟨r, hr, rfl, hst, hgone, hat⟩
  · rintro ⟨r, hr, rfl, hst, hgone, hat⟩
    exact ⟨r, hr, hst, hgone, hat, rfl⟩

theorem release_mem_events {s : State} {tag : Nat} : Event.release tag ∈ s.events ↔
    ∃ st, ∃ l ∈ s.arb.lists st, ∃ c ∈ l, c.owner = tag ∧ c.release = some s.here := by
  simp only [mem_events, mem_points, mem_stationPoints, mem_claimPoints]
  simp only [reduceCtorEq, and_false, or_false, false_or, exists_false, Event.release.injEq]
  constructor
  · rintro ⟨st, l, hl, c, hc, hat, rfl⟩
    exact ⟨st, l, hl, c, hc, rfl, hat⟩
  · rintro ⟨st, l, hl, c, hc, rfl, hat⟩
    exact ⟨st, l, hl, c, hc, hat, rfl⟩

theorem begins_mem_events {s : State} {tag : Nat} {st : Station} : Event.begins tag st ∈ s.events ↔
    ∃ l ∈ s.arb.lists st, ∃ c ∈ l, c.owner = tag ∧ c.start = s.here := by
  simp only [mem_events, mem_points, mem_stationPoints, mem_claimPoints]
  simp only [reduceCtorEq, and_false, or_false, false_or, exists_false, Event.begins.injEq]
  constructor
  · rintro ⟨st', l, hl, c, hc, hat, rfl, rfl⟩
    exact ⟨l, hl, c, hc, rfl, hat⟩
  · rintro ⟨l, hl, c, hc, rfl, hat⟩
    exact ⟨st, l, hl, c, hc, hat, rfl, rfl⟩

theorem ends_mem_events {s : State} {tag : Nat} {st : Station} : Event.ends tag st ∈ s.events ↔
    ∃ l ∈ s.arb.lists st, ∃ c ∈ l, c.owner = tag ∧ c.stop = s.here := by
  simp only [mem_events, mem_points, mem_stationPoints, mem_claimPoints]
  simp only [reduceCtorEq, and_false, or_false, false_or, exists_false, Event.ends.injEq]
  constructor
  · rintro ⟨st', l, hl, c, hc, hat, rfl, rfl⟩
    exact ⟨l, hl, c, hc, rfl, hat⟩
  · rintro ⟨l, hl, c, hc, rfl, hat⟩
    exact ⟨st, l, hl, c, hc, hat, rfl, rfl⟩

theorem group_mem_events {s : State} : Event.group ∈ s.events ↔ 64 ≤ s.pos.groupCount := by
  simp [mem_events, mem_points, mem_stationPoints, mem_claimPoints]

theorem scan_mem_events {s : State} : Event.scan ∈ s.events ↔ s.here.toNat % 4 = 0 := by
  simp [mem_events, mem_points, mem_stationPoints, mem_claimPoints]

theorem switch_mem_events {s : State} : Event.switch ∈ s.events ↔ s.rcp.psw = some s.here := by
  simp [mem_events, mem_points, mem_stationPoints, mem_claimPoints]

/-- Settles O6: POS's own step is `advance_pos`, the order of the deliveries `deliver_order`, and what falls at the new position
`mem_events`. -/
theorem advanceMovesThePosition : Obligations.AdvanceMovesThePosition := by
  refine ⟨fun a b coils s hacc hfwd hback hgroup => ?_, fun a b coils s hacc hfwd hback hgroup => ?_⟩
  · refine ⟨_, exec_edge_advances coils hacc hfwd hback, ?_⟩
    rw [sampled_advance_pos]
    by_cases hfull : s.pos.groupCount = 63
    · have hbelt := step_belt_ne_stopped s.line.stopMs (s.sampled a b).pos
      rw [if_pos (by omega)]
      unfold Pos.completeGroup
      by_cases hseen : s.pos.completionsSeen = 0
      · rw [if_pos (show ((s.sampled a b).pos.step s.line.stopMs).completionsSeen = 0 from hseen)]
        refine ⟨rfl, rfl, rfl, rfl, rfl, rfl, hback, rfl, fun h => by omega, fun _ =>
          ⟨rfl, rfl, rfl, fun _ => ⟨rfl, rfl⟩, fun h => by omega⟩⟩
      · rw [if_neg (show ¬ ((s.sampled a b).pos.step s.line.stopMs).completionsSeen = 0 from hseen)]
        refine ⟨rfl, rfl, rfl, rfl, rfl, rfl, hback, rfl, fun h => by omega, fun _ =>
          ⟨rfl, rfl, rfl, fun h => absurd h hseen, fun _ => ⟨rfl, ?_⟩⟩⟩
        exact if_neg hbelt
    · rw [if_neg (by omega)]
      exact ⟨rfl, rfl, rfl, rfl, rfl, rfl, hback, rfl, fun _ => ⟨rfl, rfl, rfl, rfl, rfl⟩, fun h => absurd h hfull⟩
  · intro here u at'
    obtain ⟨order, hperm, hpair, hrun⟩ := deliver_order coils _ u.events u rfl
    refine ⟨⟨order, hperm, hpair, ?_⟩, ?_, scan_mem_events, switch_mem_events, fun tag =>
      ⟨decision_mem_events, front_mem_events, tail_mem_events, release_mem_events, fun st => ⟨begins_mem_events, ends_mem_events⟩⟩⟩
    · rw [exec_edge_advances coils hacc hfwd hback]
      exact congrArg Host.Outcome.next hrun
    · rw [group_mem_events]
      show 64 ≤ s.pos.groupCount + 1 ↔ _
      omega

/-! ### The counters -/

/-- Position and time are as they were. -/
def State.CountersKept (s t : State) : Prop := t.pos.time = s.pos.time ∧ t.pos.position = s.pos.position

/-- The time is as it was, and the position as it was or 0. -/
def State.CountersRestarted (s t : State) : Prop :=
  t.pos.time = s.pos.time ∧ (t.pos.position = s.pos.position ∨ t.pos.position = 0)

theorem newStopMs_counters (stopMs : Nat) (p : Pos) :
    (p.newStopMs stopMs).time = p.time ∧ (p.newStopMs stopMs).position = p.position := by
  unfold Pos.newStopMs
  split
  · exact ⟨rfl, rfl⟩
  · simp only
    split <;> exact ⟨rfl, rfl⟩

theorem completeGroup_counters (t64Run : Nat) (p : Pos) :
    (p.completeGroup t64Run).time = p.time ∧ (p.completeGroup t64Run).position = p.position := by
  unfold Pos.completeGroup
  simp only
  split <;> exact ⟨rfl, rfl⟩

theorem advance_counters (samples : Vector Sample 32) (s : State) :
    (s.advance samples).pos.time = s.pos.time ∧ (s.advance samples).pos.position = s.pos.position + 1 := by
  rw [advance_pos]
  split
  · exact completeGroup_counters _ _
  · exact ⟨rfl, rfl⟩

/-- An edge leaves the counters, or is an advance and moves the position by one (R3 to R6). -/
theorem edge_counters {a b : Bool} {coils : Vector Sample 32} {s t : State} (h : exec (.encoderEdge a b coils) s = .next t) :
    s.CountersKept t ∨ t.pos.time = s.pos.time ∧ t.pos.position = s.pos.position + 1 ∧ s.EdgeAccepted ∧ s.pos.backlash = 0 ∧
      s.Forward a b := by
  by_cases hf : s.filtered = true
  · rw [exec_edge_of_filtered a b coils hf] at h
    exact .inl (Host.Outcome.next.inj h ▸ ⟨rfl, rfl⟩)
  · have hacc := (filtered_eq_false_iff s).mp (by simpa using hf)
    rw [exec_edge_of_accepted a b coils hacc] at h
    obtain rfl := Host.Outcome.next.inj h
    cases hq : quadOf s.pos.accA s.pos.accB a b with
    | null => exact .inl ⟨rfl, rfl⟩
    | forward =>
      rw [counted_forward]
      split
      · exact .inl ⟨rfl, rfl⟩
      · next hb =>
        obtain ⟨htime, hpos⟩ := advance_counters coils (s.sampled a b)
        exact .inr ⟨htime, hpos, hacc, Nat.eq_zero_of_not_pos hb, forward_of_quadOf hq⟩
    | illegal => exact .inl ⟨rfl, rfl⟩
    | reverse =>
      rw [counted_reverse]
      split <;> exact .inl ⟨rfl, rfl⟩

theorem restart_counters (s : State) : s.restart.pos.time = s.pos.time ∧ s.restart.pos.position = 0 := by
  have hp : s.restart.pos = s.purge.pos.restart := restart_after_blocks s .pos (by decide)
  rw [hp, show s.purge.pos = s.pos from purge_within s .pos (by decide)]
  exact ⟨rfl, rfl⟩

/-- A command other than an edge, RESTART and a hard reset leaves both counters (R5, R6). -/
theorem exec_counters_kept {c : Instr} {s t : State} (h : exec c s = .next t) (he : ∀ a b coils, c ≠ .encoderEdge a b coils)
    (hr : c ≠ .restart) (hh : ∀ levels, c ≠ .hardReset levels) : s.CountersKept t := by
  have hw := exec_within h
  have hlink : ∀ (k : Link) (f : LinkState → LinkState) (t : State), s.CountersKept t → s.CountersKept (t.modLink k f) :=
    fun k f t ht => by simpa [State.CountersKept] using ht
  have hkept : ∀ {p : Pos}, p = s.pos → p.time = s.pos.time ∧ p.position = s.pos.position := fun hp => hp ▸ ⟨rfl, rfl⟩
  cases c
  case encoderEdge a b coils => exact absurd rfl (he a b coils)
  case restart => exact absurd rfl hr
  case hardReset levels => exact absurd rfl (hh levels)
  case stopTimerExpiry =>
    obtain rfl := Host.Outcome.next.inj h
    split <;> exact ⟨rfl, rfl⟩
  case stopMsWrite =>
    obtain rfl := Host.Outcome.next.inj h
    refine takeWrite_keeps (P := s.CountersKept) hlink (fun f slot v t _ _ ht => ?_) ⟨rfl, rfl⟩
    obtain ⟨htime, hpos⟩ := newStopMs_counters (t.storeLine .stopMs v).line.stopMs t.pos
    exact ⟨htime.trans ht.1, hpos.trans ht.2⟩
  case t64RunWrite =>
    obtain rfl := Host.Outcome.next.inj h
    exact takeWrite_keeps (P := s.CountersKept) hlink (fun f slot v t _ _ ht => ht) ⟨rfl, rfl⟩
  case frameReceived l _ _ | frameDropped l _ _ | receiverByteTaken l _ _ | frameGapTimeout l | frameSent l | badKindRequest l =>
    exact hkept (hw .pos (by cases l <;> simp [reach, linkBlock]))
  all_goals exact hkept (hw .pos (by simp [reach, leavingBlocks]))

/-- Settles O7: only an edge that advances, RESTART and a hard reset move a counter. -/
theorem countersMoveOnlyForward : Obligations.CountersMoveOnlyForward := by
  intro c s t h
  by_cases he : ∃ a b coils, c = .encoderEdge a b coils
  · obtain ⟨a, b, coils, rfl⟩ := he
    refine ⟨fun _ => ?_, by simp, fun _ _ => ?_, by simp⟩
    · rcases edge_counters h with hk | ⟨htime, -⟩
      · exact hk.1
      · exact htime
    · rcases edge_counters h with hk | ⟨-, hpos, hacc, hback, hfwd⟩
      · exact .inl hk.2
      · exact .inr ⟨hpos, hacc, hback, a, b, coils, rfl, hfwd⟩
  · by_cases hr : c = .restart
    · subst hr
      have hk : s.CountersRestarted t := by
        obtain rfl := Host.Outcome.next.inj h
        refine takeRequest_keeps (P := s.CountersRestarted) (fun k f t ht => by simpa [State.CountersRestarted] using ht)
          (fun f t _ ht => ofLength_keeps (P := s.CountersRestarted) (fun _ => ?_) ht) ⟨rfl, .inl rfl⟩
        obtain ⟨htime, hpos⟩ := restart_counters t
        exact ⟨htime.trans ht.1, .inr hpos⟩
      exact ⟨fun _ => hk.1, by simp, by simp, fun _ => hk.2⟩
    · by_cases hh : ∃ levels, c = .hardReset levels
      · obtain ⟨levels, rfl⟩ := hh
        obtain rfl := Host.Outcome.next.inj h
        have hp : ((State.blank levels s.draws s.pending).censusOf allStations).pos = Pos.reset levels.encA levels.encB :=
          censusOf_within _ _ .pos (by decide)
        rw [hp]
        exact ⟨fun hn => absurd rfl (hn levels), fun _ _ => ⟨rfl, rfl⟩, fun hn => absurd rfl (hn levels), by simp⟩
      · have hk := exec_counters_kept h (by simpa using he) hr (by simpa using hh)
        exact ⟨fun _ => hk.1, fun levels hc => absurd ⟨levels, hc⟩ hh, fun _ _ => .inl hk.2, fun hc => absurd hc hr⟩

end Sys2Proof.Machine

/-! ## A scan

What a segmentation keeps, and what an advance makes of the coils (R10, R19 to R24). -/

namespace Sys2Proof.Machine

/-! ### What a segmentation keeps -/

section Segmentation
variable {P : State → Prop}

/-- What a segmentation reaches, the alert latches apart. -/
abbrev trackingBlocks : List Block := [.seg, .tab, .slots, .ecs, .clink, .draws]

theorem mergeGroup_tracking (x : Live) (xs : List Live) (s : State) : Within trackingBlocks s (s.mergeGroup x xs).2 := by
  refine (syncRecord_within _ _).after (by decide) ?_
  refine (foldl_within _ (fun t (y : Live) => retireLoser_within y.tracker t) _ _).after (by decide) ?_
  exact (shuffle_within _ _ s).mono (by decide)

theorem mergeAdjoining_tracking (w : List Live × State) : Within trackingBlocks w.2 (State.mergeAdjoining w).2 := by
  unfold State.mergeAdjoining
  split
  · exact Within.refl _ w.2
  · refine foldl_pair_within _ (fun acc g => ?_) _ ([], w.2)
    split
    · exact Within.refl _ acc.2
    · exact Within.refl _ acc.2
    · exact mergeGroup_tracking _ _ acc.2

theorem closeRecord_tracking (tag : Nat) (c : Closing) (isLong : Bool) (s : State) :
    Within trackingBlocks s (s.closeRecord tag c isLong) := by
  unfold State.closeRecord
  simp only
  split
  · refine (refreshNeed_within _ tag).after (by decide) ((sight_within _ _ _).after (by decide) ?_)
    exact (modRecord_within s tag _).mono (by decide)
  · exact (modRecord_within s tag _).mono (by decide)

theorem closeTracker_tracking (x : Tracker) (t : W32) (isLong : Bool) (s : State) :
    Within trackingBlocks s (s.closeTracker x t isLong) := by
  unfold State.closeTracker
  split
  · exact closeRecord_tracking _ _ isLong s
  · exact (modTotals_within s _).mono (by decide)
  · exact Within.refl _ s

theorem closeStep_tracking (gapScans lMax : Nat) (s : State) (x : Live) :
    Within trackingBlocks s (State.closeStep gapScans lMax s x) := by
  unfold State.closeStep
  split
  · exact (modSeg_within s _).mono (by decide)
  · exact Within.ite ((closeTracker_tracking _ _ _ s).trans ((modSeg_within _ _).mono (by decide))) (closeTracker_tracking _ _ _ s)

/-- An opening latches TABLE_FULL at most (R42). -/
theorem openTracker_keeps (hquiet : ∀ s t, Within trackingBlocks s t → P s → P t) (hlatch : ∀ s, P s → P (s.latch .tableFull))
    (tMix : Nat) (readings : List Reading) (notes : List Span) (run : Span) {s : State} (h : P s) :
    P (s.openTracker tMix readings notes run).2 := by
  unfold State.openTracker
  simp only
  generalize Tracker.take tMix readings run _ = x
  have ho : P (s.openRecord x).2 := hquiet s _ ((openRecord_within s x).mono (by decide)) h
  split
  · next heq =>
    rw [heq] at ho
    exact ho
  · next heq =>
    rw [heq] at ho
    exact hlatch _ ho

theorem takeRun_keeps (hquiet : ∀ s t, Within trackingBlocks s t → P s → P t) (hlatch : ∀ s, P s → P (s.latch .tableFull))
    (tMix : Nat) (readings : List Reading) (notes : List Span) (run : Span) {w : List Live × State} (h : P w.2) :
    P (State.takeRun tMix readings notes run w).2 := by
  unfold State.takeRun
  simp only
  split
  · exact openTracker_keeps hquiet hlatch tMix readings notes run h
  · exact hquiet w.2 _ ((syncRecord_within _ _).after (by decide) (mergeGroup_tracking _ _ w.2)) h

/-- A segmentation keeps what its blocks do not touch, and the latching of TABLE_FULL keeps. -/
theorem segment_keeps (hquiet : ∀ s t, Within trackingBlocks s t → P s → P t) (hlatch : ∀ s, P s → P (s.latch .tableFull))
    (p : RecipeParams) (readings : List Reading) {s : State} (h : P s) : P (s.segment p readings) := by
  have hruns : ∀ (runs : List Span) (w : List Live × State), P w.2 →
      P (runs.foldl (fun w run => State.takeRun p.tMix readings s.seg.notes run w) w).2 := by
    intro runs
    induction runs with
    | nil => exact fun w hw => hw
    | cons run runs ih => exact fun w hw => ih _ (takeRun_keeps hquiet hlatch _ _ _ run hw)
  have hw := hruns (runsFrom 0 none (readings.map (·.active))) (s.seg.trackers.map fun t => { tracker := t, took := false }, s) h
  refine hquiet _ _ ?_ hw
  refine (foldl_within _ (fun t x => closeStep_tracking p.gapScans s.line.lMax t x) _ _).after (by decide) ?_
  exact (modSeg_within _ _).after (by decide) (mergeAdjoining_tracking _)

end Segmentation

/-! ### COIL -/

/-- A latch that is set reads as set. -/
theorem latched_latch (a : Alert) (s : State) : (s.latch a).latched a = true := by
  have h : (s.lsig.alerts ||| a.bit) &&& a.bit = a.bit := by
    ext i hi
    simpa using .inr
  unfold State.latched
  rw [State.latch_alerts, h]
  cases a <;> rfl

/-- A latch stays set at the setting of any (R168). -/
theorem latched_of_latched (a b : Alert) {s : State} (h : s.latched a = true) : (s.latch b).latched a = true := by
  unfold State.latched at h ⊢
  rw [State.latch_alerts, BitVec.and_or_distrib_right]
  simp only [bne_iff_ne, ne_eq] at h ⊢
  exact fun hc => h (BitVec.or_eq_zero_iff.mp hc).1

/-- What leaves the latches leaves each of them. -/
theorem Within.latched {bs : List Block} {s t : State} (h : Within bs s t) (hb : Block.alerts ∉ bs) (a : Alert) :
    t.latched a = s.latched a := by
  unfold State.latched
  rw [(h .alerts hb).1]

/-- A scan at which a coil becomes FAULTED latches COIL (R24). -/
theorem scanBar_latches_coil (samples : Vector Sample 32) {s : State} (h : s.scan.faults s.activeParams samples = true) :
    (s.scanBar samples).latched .coil = true := by
  unfold State.scanBar
  simp only [h, if_true]
  refine segment_keeps (P := fun s => s.latched .coil = true) (fun s t hw hs => ?_) (fun s hs => latched_of_latched .coil .tableFull hs) _ _
    (latched_latch .coil _)
  rw [hw.latched (by decide)]
  exact hs

theorem faults_of_coil {p : RecipeParams} {samples : Vector Sample 32} {b : Scan} (k : Fin 32) (hk : b.coils[k].faulted = false)
    (hs : 1000 ≤ b.coils[k].stuckAfter samples[k].amp.toNat) : b.faults p samples = true := by
  refine List.any_eq_true.mpr ⟨k, List.mem_finRange k, ?_⟩
  have hj : (b.judge p samples)[k].faulted = true := by
    rw [Scan.judge_get, Coil.scan, if_neg (by rw [hk]; simp)]
    simp only
    rw [if_pos hs]
  simp only [hk, hj]
  rfl

/-! ### The scan of an advance -/

theorem activeParams_congr {s t : State} (h : t.rcp.slots = s.rcp.slots) : t.activeParams = s.activeParams := by
  simp only [State.activeParams, State.activeSlot, h]

/-- What comes before a scan, no switch among it, leaves SCAN and the ACTIVE slot's parameters. -/
theorem foldl_deliverOne_slots (samples : Vector Sample 32) (order : List (Event × Nat)) : ∀ s : State,
    (∀ x ∈ order, x.1 ≠ .scan ∧ x.1 ≠ .switch) →
    (order.foldl (State.deliverOne samples) s).rcp.slots = s.rcp.slots := by
  induction order with
  | nil => exact fun s _ => rfl
  | cons x order ih =>
    intro s h
    obtain ⟨hscan, hswitch⟩ := h x List.mem_cons_self
    refine (ih _ fun y hy => h y (List.mem_cons_of_mem x hy)).trans ?_
    by_cases hg : x.1 = .group
    · rw [State.deliverOne, hg]
      rfl
    · exact bringAbout_point_within samples _ ⟨hg, hscan, hswitch⟩ .slots (by decide)

theorem foldl_deliverOne_scan (samples : Vector Sample 32) (order : List (Event × Nat)) : ∀ s : State,
    (∀ x ∈ order, x.1 ≠ .scan) → (order.foldl (State.deliverOne samples) s).scan = s.scan := by
  induction order with
  | nil => exact fun s _ => rfl
  | cons x order ih =>
    intro s h
    exact (ih _ fun y hy => h y (List.mem_cons_of_mem x hy)).trans (bringAbout_scan samples _ (h x List.mem_cons_self))

/-- Only a scan latches an alert at an advance. -/
theorem bringAbout_latched (samples : Vector Sample 32) (s : State) {e : Event} (h : e ≠ .scan) (a : Alert) :
    (s.bringAbout samples e).latched a = s.latched a := by
  by_cases hg : e = .group
  · subst hg
    rfl
  · by_cases hw : e = .switch
    · subst hw
      exact (switchPoint_within s).latched (by decide) a
    · exact (bringAbout_point_within samples s ⟨hg, h, hw⟩).latched (by decide) a

theorem foldl_deliverOne_latched (samples : Vector Sample 32) (a : Alert) (order : List (Event × Nat)) : ∀ s : State,
    (∀ x ∈ order, x.1 ≠ .scan) → (order.foldl (State.deliverOne samples) s).latched a = s.latched a := by
  induction order with
  | nil => exact fun s _ => rfl
  | cons x order ih =>
    intro s h
    exact (ih _ fun y hy => h y (List.mem_cons_of_mem x hy)).trans (bringAbout_latched samples _ (h x List.mem_cons_self) a)

/-- A list with one thing of a kind is what comes before it, the thing, and what comes behind it. -/
theorem exists_split_of_count_one {order : List (Event × Nat)} {e : Event} (h : (order.map Prod.fst).count e = 1) :
    ∃ before n behind, order = before ++ (e, n) :: behind ∧ (∀ x ∈ before, x.1 ≠ e) ∧ ∀ x ∈ behind, x.1 ≠ e := by
  have hm : e ∈ order.map Prod.fst := List.count_pos_iff.mp (by omega)
  obtain ⟨⟨e', n⟩, hx, rfl⟩ := List.mem_map.mp hm
  obtain ⟨before, behind, rfl⟩ := List.append_of_mem hx
  simp only [List.map_append, List.map_cons, List.count_append, List.count_cons_self] at h
  refine ⟨before, n, behind, rfl, fun x hx hc => ?_, fun x hx hc => ?_⟩
  · have := List.count_pos_iff.mpr (List.mem_map.mpr ⟨x, hx, hc⟩ : e' ∈ before.map Prod.fst)
    omega
  · have := List.count_pos_iff.mpr (List.mem_map.mpr ⟨x, hx, hc⟩ : e' ∈ behind.map Prod.fst)
    omega

/-- SCAN after an advance with no switch at its position: judged once at a multiple of 4, with COIL where a coil becomes FAULTED, and else
as it was (R10). -/
theorem advance_scan (samples : Vector Sample 32) (s : State) (hpsw : s.rcp.psw ≠ some (s.here + 1)) :
    ((s.here + 1).toNat % 4 ≠ 0 → (s.advance samples).scan = s.scan) ∧
    ((s.here + 1).toNat % 4 = 0 →
      (s.advance samples).scan = { coils := s.scan.judge s.activeParams samples, settling := min 64 (s.scan.settling + 1) } ∧
      (s.scan.faults s.activeParams samples = true → (s.advance samples).latched .coil = true)) := by
  let u := s.modPos (Pos.step s.line.stopMs)
  have hadv : s.advance samples = u.deliver samples u.events.length u.events := rfl
  obtain ⟨order, hperm, -, hrun⟩ := deliver_order samples _ u.events u rfl
  have hcount : (order.map Prod.fst).count .scan = if (s.here + 1).toNat % 4 = 0 then 1 else 0 :=
    (hperm.count_eq _).trans (count_scan_events u)
  have hswitch : ∀ x ∈ order, x.1 ≠ .switch := by
    intro x hx hc
    have hm : Event.switch ∈ u.events := hc ▸ hperm.mem_iff.mp (List.mem_map_of_mem hx)
    exact hpsw (switch_mem_events.mp hm)
  rw [hadv, hrun]
  refine ⟨fun hn => ?_, fun hm => ?_⟩
  · rw [if_neg hn] at hcount
    refine foldl_deliverOne_scan samples order u fun x hx hc => ?_
    exact List.count_eq_zero.mp hcount (hc ▸ List.mem_map_of_mem hx)
  · rw [if_pos hm] at hcount
    obtain ⟨before, n, behind, rfl, hbefore, hbehind⟩ := exists_split_of_count_one hcount
    have hscan := foldl_deliverOne_scan samples before u hbefore
    have hparams : (before.foldl (State.deliverOne samples) u).activeParams = s.activeParams :=
      activeParams_congr (foldl_deliverOne_slots samples before u fun x hx =>
        ⟨hbefore x hx, hswitch x (List.mem_append_left _ hx)⟩)
    rw [List.foldl_append, List.foldl_cons, foldl_deliverOne_scan samples behind _ hbehind,
      foldl_deliverOne_latched samples .coil behind _ hbehind]
    generalize before.foldl (State.deliverOne samples) u = v at hscan hparams ⊢
    have hone : v.deliverOne samples (.scan, n) = ({ v with draws := n } : State).scanBar samples := rfl
    have hp : ({ v with draws := n } : State).activeParams = s.activeParams := hparams
    have hs : ({ v with draws := n } : State).scan = s.scan := hscan
    rw [hone]
    refine ⟨?_, fun hf => scanBar_latches_coil samples ?_⟩
    · rw [scanBar_scan, hp, hs]
    · rw [hp, hs]
      exact hf

/-! ### One coil -/

section OneCoil
variable {p : RecipeParams} {settling amp : Nat} {c : Coil}

theorem Coil.scan_of_faulted (hf : c.faulted = true) : c.scan p settling amp = { c with active := false } := if_pos hf

/-- The stuck count reaches 1,000 (R24). -/
theorem Coil.scan_of_stuck (hf : c.faulted = false) (hs : 1000 ≤ if amp = 0 ∨ amp = 4095 then c.stuck + 1 else 0) :
    c.scan p settling amp = { c with active := false, stuck := 1000, faulted := true } ∧ 1000 ≤ c.stuckAfter amp := by
  have hstuck : c.stuckAfter amp = 1000 := by
    unfold Coil.stuckAfter
    split <;> simp_all
  unfold Coil.scan
  rw [if_neg (by simp [hf])]
  simp only [hstuck]
  exact ⟨if_pos (Nat.le_refl _), Nat.le_refl _⟩

theorem Coil.stuckAfter_of_lt (hs : (if amp = 0 ∨ amp = 4095 then c.stuck + 1 else 0) < 1000) :
    c.stuckAfter amp = if amp = 0 ∨ amp = 4095 then c.stuck + 1 else 0 := by
  unfold Coil.stuckAfter
  split
  · next h =>
    rw [if_pos h] at hs
    exact Nat.min_eq_right hs.le
  · rfl

/-- While the settling count is below 64 the baseline is loaded, and then follows (R20, R23). -/
theorem Coil.scan_of_settling (hf : c.faulted = false) (hs : (if amp = 0 ∨ amp = 4095 then c.stuck + 1 else 0) < 1000)
    (h64 : settling < 64) : c.scan p settling amp =
      { k := if settling = 0 then 256 * amp else min 1048575 (c.k + amp - c.k / 256), active := false
        stuck := if amp = 0 ∨ amp = 4095 then c.stuck + 1 else 0, faulted := false } := by
  unfold Coil.scan
  simp only [Coil.stuckAfter_of_lt hs, hf]
  rw [if_neg (by simp), if_neg (by omega), if_pos h64]
  rfl

/-- From then on the activity test judges the coil, and an INACTIVE one's baseline follows (R20, R21). -/
theorem Coil.scan_of_settled (hf : c.faulted = false) (hs : (if amp = 0 ∨ amp = 4095 then c.stuck + 1 else 0) < 1000)
    (h64 : 64 ≤ settling) : c.scan p settling amp =
      if (if c.active then p.tOff < amp - c.k / 256 else p.tOn ≤ amp - c.k / 256) then
        { k := c.k, active := true, stuck := if amp = 0 ∨ amp = 4095 then c.stuck + 1 else 0, faulted := false }
      else
        { k := min 1048575 (c.k + amp - c.k / 256), active := false
          stuck := if amp = 0 ∨ amp = 4095 then c.stuck + 1 else 0, faulted := false } := by
  have hact : c.activeAfter p amp = true ↔ if c.active then p.tOff < amp - c.k / 256 else p.tOn ≤ amp - c.k / 256 := by
    unfold Coil.activeAfter Coil.excess
    split <;> exact decide_eq_true_iff
  unfold Coil.scan
  simp only [Coil.stuckAfter_of_lt hs, hf]
  rw [if_neg (by simp), if_neg (by omega), if_neg (by omega)]
  by_cases ha : c.activeAfter p amp = true
  · rw [if_pos ha, if_pos (hact.mp ha)]
  · rw [if_neg ha, if_neg (fun hn => ha (hact.mpr hn))]
    rfl

end OneCoil

/-- Settles O8: the one scan of the advance judges each coil by `Coil.scan`. -/
theorem scanJudgesEachCoil : Obligations.ScanJudgesEachCoil := by
  intro a b coils s t hacc hfwd hback hpsw h
  rw [exec_edge_advances coils hacc hfwd hback] at h
  obtain rfl := Host.Outcome.next.inj h
  obtain ⟨hno, hyes⟩ := advance_scan coils (s.sampled a b) hpsw
  refine ⟨hno, fun hm => ?_⟩
  obtain ⟨hscan, hcoil⟩ := hyes hm
  rw [hscan]
  refine ⟨rfl, fun k => ?_⟩
  have hget : (s.scan.judge (s.sampled a b).activeParams coils)[k] =
      s.scan.coils[k].scan s.activeParams s.scan.settling coils[k].amp.toNat := Scan.judge_get _ coils s.scan k
  intro c amp excess follow stuck
  show (c.faulted = true → (s.scan.judge (s.sampled a b).activeParams coils)[k] = _) ∧ _
  refine ⟨fun hf => hget.trans (Coil.scan_of_faulted hf), fun hf hs => ?_, fun hf hs h0 => ?_, fun hf hs h0 h64 => ?_,
    fun hf hs h64 => hget.trans (Coil.scan_of_settled hf hs h64)⟩
  · obtain ⟨hc, hstuck⟩ := Coil.scan_of_stuck hf hs
    exact ⟨hget.trans hc, hcoil (faults_of_coil k hf hstuck)⟩
  · refine hget.trans ((Coil.scan_of_settling hf hs (by omega)).trans ?_)
    rw [if_pos h0]
  · refine hget.trans ((Coil.scan_of_settling hf hs h64).trans ?_)
    rw [if_neg (by omega)]

end Sys2Proof.Machine

/-! ## The LOCATE rule (R54) -/

namespace Sys2Proof.Machine

/-- How far a record's front lies behind position `p`. -/
def Record.age (p : W32) (r : Record) : Nat := (p - r.f).toNat

section Ages
variable {p : W32} {a b : Record}

theorem Record.age_eq_iff : a.age p = b.age p ↔ a.f = b.f := by
  unfold Record.age
  bv_omega

/-- Of two fronts already reached, the earlier is the one farther behind. -/
theorem earlier_front_iff (ha : a.age p < 2 ^ 31) (hb : b.age p < 2 ^ 31) : earlier b.f a.f = true ↔ a.age p < b.age p := by
  have hne : b.f = a.f ↔ b.age p = a.age p := Record.age_eq_iff.symm
  have hreached : reached a.f b.f = true ↔ a.age p ≤ b.age p := by
    simp only [reached, decide_eq_true_eq]
    unfold Record.age at *
    bv_omega
  simp only [earlier, Bool.and_eq_true, bne_iff_ne, ne_eq, hreached, hne]
  omega

/-- Among fronts already reached, the preference is by age and then by first coil. -/
theorem preferred_iff (ha : a.age p < 2 ^ 31) (hb : b.age p < 2 ^ 31) :
    a.preferred b = true ↔ a.age p < b.age p ∨ a.age p = b.age p ∧ a.span.first < b.span.first := by
  simp only [Record.preferred, Bool.or_eq_true, Bool.and_eq_true, beq_iff_eq, decide_eq_true_eq, earlier_front_iff ha hb,
    Record.age_eq_iff]

/-- No front is later, and none equal has a lower first coil, where the preference does not say so. -/
theorem not_later_of_not_preferred (ha : a.age p < 2 ^ 31) (hb : b.age p < 2 ^ 31) (h : ¬ a.preferred b = true) :
    ¬ (a.f - b.f ≠ 0 ∧ (a.f - b.f).toNat < 2 ^ 31) ∧ (a.f = b.f → b.span.first ≤ a.span.first) := by
  rw [preferred_iff ha hb, not_or, not_and] at h
  obtain ⟨hage, hfirst⟩ := h
  refine ⟨?_, fun heq => Nat.not_lt.mp (hfirst (Record.age_eq_iff.mpr heq))⟩
  unfold Record.age at ha hb hage
  bv_omega

end Ages

theorem bestOf_eq_none {l : List Record} : bestOf l = none ↔ l = [] := by
  cases l with
  | nil => exact iff_of_true rfl rfl
  | cons r rs =>
    refine iff_of_false (fun h => ?_) (List.cons_ne_nil r rs)
    unfold bestOf at h
    split at h
    · cases h
    · split at h <;> cases h

/-- What is best is of the list, and nothing of the list is preferred to it. -/
theorem bestOf_spec {p : W32} {l : List Record} (hl : ∀ r ∈ l, r.age p < 2 ^ 31) {r : Record} (h : bestOf l = some r) :
    r ∈ l ∧ ∀ x ∈ l, ¬ x.preferred r = true := by
  induction l generalizing r with
  | nil => cases h
  | cons y ys ih =>
    have hy := hl y List.mem_cons_self
    have hys : ∀ x ∈ ys, x.age p < 2 ^ 31 := fun x hx => hl x (List.mem_cons_of_mem y hx)
    have hself : ¬ y.preferred y = true := by
      rw [preferred_iff hy hy]
      omega
    unfold bestOf at h
    split at h
    · next hnone =>
      obtain rfl := Option.some.inj h
      obtain rfl := bestOf_eq_none.mp hnone
      exact ⟨List.mem_cons_self, fun x hx => by rwa [List.mem_singleton.mp hx]⟩
    · next b hb =>
      obtain ⟨hbm, hbest⟩ := ih hys hb
      have hage := hys b hbm
      split at h
      · next hby =>
        obtain rfl := Option.some.inj h
        refine ⟨List.mem_cons_of_mem y hbm, fun x hx => ?_⟩
        obtain rfl | hx := List.mem_cons.mp hx
        · rw [preferred_iff hage hy] at hby
          rw [preferred_iff hy hage]
          omega
        · exact hbest x hx
      · next hby =>
        obtain rfl := Option.some.inj h
        refine ⟨List.mem_cons_self, fun x hx => ?_⟩
        obtain rfl | hx := List.mem_cons.mp hx
        · exact hself
        · have hxb := hbest x hx
          rw [preferred_iff hage hy] at hby
          rw [preferred_iff (hys x hx) hage] at hxb
          rw [preferred_iff (hys x hx) hy]
          omega

/-- A candidate as R54 spells it out. -/
theorem candidate_iff {s : State} {p : W32} {coil : Nat} {r : Record} : s.candidate p coil r = true ↔
    r.span.first ≤ coil ∧ coil ≤ r.span.last ∧ (p - r.f + BitVec.ofNat 32 s.line.locateTol).toNat < 2 ^ 31 ∧
      (s.tailOf r + BitVec.ofNat 32 s.line.locateTol - p).toNat < 2 ^ 31 := by
  have hfront : p - (r.f - BitVec.ofNat 32 s.line.locateTol) = p - r.f + BitVec.ofNat 32 s.line.locateTol :=
    sub_sub_eq_add_sub p r.f _ |>.trans (add_sub_right_comm p _ r.f)
  simp only [State.candidate, reached, Bool.and_eq_true, decide_eq_true_eq, hfront, and_assoc]

theorem tailOf_eq (s : State) (r : Record) :
    s.tailOf r = (r.closing.map (·.t)).getD (s.here - BitVec.ofNat 32 (s.here.toNat % 4)) := by
  unfold State.tailOf lastScan
  cases r.closing <;> rfl

/-- Settles O28: `bestOf` is the least by age and first coil. -/
theorem locateFindsTheLatestFront : Obligations.LocateFindsTheLatestFront := by
  intro p coil s hreached tail tol candidate
  have hmem : ∀ r, r ∈ s.tab.records.filter (s.candidate p coil) ↔ candidate r := fun r => by
    rw [List.mem_filter, candidate_iff, tailOf_eq]
  refine ⟨fun h r hr => ?_, fun r h => ?_⟩
  · have hr := (hmem r).mpr hr
    rw [bestOf_eq_none.mp h] at hr
    cases hr
  · have hage : ∀ x ∈ s.tab.records.filter (s.candidate p coil), x.age s.here < 2 ^ 31 := fun x hx =>
      hreached x (List.mem_filter.mp hx).1
    obtain ⟨hr, hbest⟩ := bestOf_spec hage h
    refine ⟨(hmem r).mp hr, fun x hx => ?_⟩
    have hx := (hmem x).mpr hx
    exact not_later_of_not_preferred (hage x hx) (hage r hr) (hbest x hx)

end Sys2Proof.Machine

/-! ## The writes of owned parameters (R13, R97, R128, R168, R169) -/

namespace Sys2Proof.Machine

theorem holdIn_eq_clampTo {low high : Nat} (h : low ≤ high) (v : Nat) : holdIn (low, high) v = clampTo low high v := by
  unfold holdIn clampTo
  split
  · simp only
    omega
  · split <;> simp only <;> omega

theorem writeStatus_eq_storedStatus (written stored : Nat) : writeStatus (stored != written) = storedStatus written stored := by
  by_cases h : stored = written <;> simp [writeStatus, storedStatus, h]

/-- A write that is served with the value held is answered with it, CLAMPED where it is not the one written (R97). -/
theorem takeWrite_stored {s t : State} {number slot v w : Nat} {rest : List Frame} {row : Instr}
    {serve : Nat → Nat → Nat → State → State × Reply} (h : s.Waits .supervisor 0x21 (paramBody number slot v) rest)
    (hrow : paramWriteRow (paramBody number slot v) = row) (hn : number < 65536) (hs : slot < 256) (hv : v < 4294967296)
    (hserve : serve number slot v (s.popped .supervisor rest) = (t, paramReply number slot w (writeStatus (w != v)))) :
    s.takeWrite row serve = t.replied .supervisor 0x21 (storedStatus v w) (paramBody number slot w) := by
  rw [takeWrite_of_waits serve h hrow hn hs hv, hserve, writeStatus_eq_storedStatus]
  rfl

/-- The row of a number whose body has the length of a write. -/
theorem paramWriteRow_paramBody {number slot v : Nat} (hn : number < 65536) : paramWriteRow (paramBody number slot v) =
    if number = 0x001 then .stopMsWrite
    else if number = 0x002 then .t64RunWrite
    else if number = 0x003 then .backlashMaxWrite
    else if 0x010 ≤ number ∧ number ≤ 0x016 then .geometryWrite
    else if number = 0x024 then .heatMaxWrite
    else if number = 0x031 then .rotorMaxRpmWrite
    else if number = 0x035 then .rotorBandWrite
    else if number = 0x060 then .clinkRateWrite
    else if number = 0x061 then .slinkRateWrite
    else if 0x070 ≤ number ∧ number ≤ 0x077 then .auxFunctionWrite
    else if number = 0x078 then .alertMaskWrite
    else .paramWrite := by
  rw [paramWriteRow, paramBody_number number slot v hn]
  exact if_neg (not_not.mpr (length_paramBody number slot v))

theorem paramWriteRow_auxFunction (k : Fin 8) (slot v : Nat) :
    paramWriteRow (paramBody (0x070 + k.val) slot v) = .auxFunctionWrite := by
  rw [paramWriteRow_paramBody (by omega)]
  iterate 9 rw [if_neg (by omega)]
  exact if_pos (by omega)

/-! ### What a new STOP_MS does to a pending stop timer -/

section NewStopMs
variable {p : Pos} {w : Nat}

theorem Pos.newStopMs_of_none (h : p.stopTimer = none) : p.newStopMs w = p := by
  unfold Pos.newStopMs
  rw [h]

theorem Pos.newStopMs_of_pending (h : p.stopTimer ≠ none) (hr : reached p.time (after p.latestAdvance (w * 1000)) = false) :
    p.newStopMs w = { p with stopTimer := some (after p.latestAdvance (w * 1000)) } := by
  obtain ⟨x, hx⟩ := Option.ne_none_iff_exists'.mp h
  unfold Pos.newStopMs
  simp only [hx, hr, Bool.false_eq_true, if_false]

theorem Pos.newStopMs_of_reached (h : p.stopTimer ≠ none) (hr : reached p.time (after p.latestAdvance (w * 1000)) = true) :
    p.newStopMs w = p.stop := by
  obtain ⟨x, hx⟩ := Option.ne_none_iff_exists'.mp h
  unfold Pos.newStopMs
  simp only [hx, hr, if_true]

end NewStopMs

/-! ### The hot input -/

/-- The OR of R128, terminal by terminal. -/
theorem hotLevel_iff (s : State) : s.hotLevel = true ↔ ∃ j : Fin 8, s.line.auxFn[j] = 1 ∧ s.inputs.aux.getLsbD j = true := by
  simp only [State.hotLevel, List.any_eq_true, mem_zipIdx_toList, Bool.and_eq_true, decide_eq_true_eq]
  constructor
  · rintro ⟨_, ⟨j, rfl⟩, h⟩
    exact ⟨j, h⟩
  · exact fun ⟨j, h⟩ => ⟨_, ⟨j, rfl⟩, h⟩

theorem seeHot_of_same {s : State} (h : s.hotLevel = s.mag.hotInput) : s.seeHot = s := if_pos h

theorem seeHot_of_changed {s : State} (h : s.hotLevel ≠ s.mag.hotInput) : s.seeHot = s.modMag fun m =>
    { m with hotInput := s.hotLevel, hotDebounce := if s.hotLevel = m.hotState then none else some (after s.now 50000) } := if_neg h

/-! ### Each row's write, once it waits -/

section Rows
variable {s : State} {slot v : Nat} {rest : List Frame} (hslot : slot < 256) (hv : v < 4294967296)
include hslot hv

theorem exec_stopMsWrite_of_waits (h : s.Waits .supervisor 0x21 (paramBody 0x001 slot v) rest) :
    let w := clampTo 50 2000 v
    exec .stopMsWrite s = .next
      ({ s.popped .supervisor rest with
          rcp := { s.rcp with line := { s.line with stopMs := w } }, pos := s.pos.newStopMs w }.replied
        .supervisor 0x21 (storedStatus v w) (paramBody 0x001 slot w)) := by
  intro w
  refine congrArg Host.Outcome.next (takeWrite_stored h rfl (by decide) hslot hv ?_)
  rw [show w = holdIn (50, 2000) v from (holdIn_eq_clampTo (by decide) v).symm]
  rfl

theorem exec_t64RunWrite_of_waits (h : s.Waits .supervisor 0x21 (paramBody 0x002 slot v) rest) :
    let w := clampTo 4000 262143 v
    exec .t64RunWrite s = .next
      ({ s.popped .supervisor rest with
          rcp := { s.rcp with line := { s.line with t64Run := w } }, pos := s.pos.newT64Run w }.replied
        .supervisor 0x21 (storedStatus v w) (paramBody 0x002 slot w)) := by
  intro w
  refine congrArg Host.Outcome.next (takeWrite_stored h rfl (by decide) hslot hv ?_)
  rw [show w = holdIn (4000, 262143) v from (holdIn_eq_clampTo (by decide) v).symm]
  rfl

theorem exec_backlashMaxWrite_of_waits (h : s.Waits .supervisor 0x21 (paramBody 0x003 slot v) rest) :
    let w := clampTo 16 4096 v
    exec .backlashMaxWrite s = .next
      ({ s.popped .supervisor rest with rcp := { s.rcp with line := { s.line with backlashMax := w } } }.replied
        .supervisor 0x21 (storedStatus v w) (paramBody 0x003 slot w)) := by
  intro w
  refine congrArg Host.Outcome.next (takeWrite_stored h rfl (by decide) hslot hv ?_)
  rw [show w = holdIn (16, 4096) v from (holdIn_eq_clampTo (by decide) v).symm]
  rfl

theorem exec_alertMaskWrite_of_waits (h : s.Waits .supervisor 0x21 (paramBody 0x078 slot v) rest) :
    exec .alertMaskWrite s = .next
      ({ s.popped .supervisor rest with rcp := { s.rcp with line := { s.line with alertMask := BitVec.ofNat 10 v } } }.replied
        .supervisor 0x21 (storedStatus v (v % 1024)) (paramBody 0x078 slot (v % 1024))) :=
  congrArg Host.Outcome.next (takeWrite_stored h rfl (by decide) hslot hv rfl)

theorem exec_auxFunctionWrite_of_waits (k : Fin 8) (h : s.Waits .supervisor 0x21 (paramBody (0x070 + k.val) slot v) rest) :
    let w := clampTo 0 4 v
    exec .auxFunctionWrite s = .next
      (({ s.popped .supervisor rest with
            rcp := { s.rcp with line := { s.line with auxFn := s.line.auxFn.set k w } } } : State).seeHot.replied
        .supervisor 0x21 (storedStatus v w) (paramBody (0x070 + k.val) slot w)) := by
  intro w
  refine congrArg Host.Outcome.next (takeWrite_stored h (paramWriteRow_auxFunction k slot v) (by omega) hslot hv ?_)
  have hk : Fin.ofNat 8 (0x070 + k.val - 0x070) = k := by
    rw [Nat.add_sub_cancel_left]
    exact Fin.ofNat_val_eq_self k
  simp only [serveAuxFunction, hk, holdIn_eq_clampTo (by decide : 0 ≤ 4) v]
  rfl

end Rows

/-- Settles O32: each write is served by its own row, which stores the value held and lets POS or the hot input follow. -/
theorem ownedParametersActAtTheWrite : Obligations.OwnedParametersActAtTheWrite := by
  constructor
  · intro number slot v rest s hslot hv h answer
    refine ⟨?_, ?_, ?_⟩
    · rintro rfl w expiry
      have hwrite : exec .stopMsWrite s = answer { s.line with stopMs := w } (s.pos.newStopMs w) w :=
        exec_stopMsWrite_of_waits hslot hv h
      refine ⟨fun hnone => ?_, fun hsome hr => ?_, fun hsome hr => ?_⟩
      · rw [hwrite, Pos.newStopMs_of_none hnone]
      · rw [hwrite, Pos.newStopMs_of_pending hsome hr]
        rfl
      · rw [hwrite, Pos.newStopMs_of_reached hsome hr]
        rfl
    · rintro rfl
      exact exec_t64RunWrite_of_waits hslot hv h
    · rintro rfl
      exact exec_backlashMaxWrite_of_waits hslot hv h
  · intro number slot v rest s hslot hv h answer
    refine ⟨?_, ?_⟩
    · rintro rfl
      exact exec_alertMaskWrite_of_waits hslot hv h
    · rintro k hot rfl w fns hhot
      let u : State := { s.popped .supervisor rest with rcp := { s.rcp with line := { s.line with auxFn := fns } } }
      have hwrite : exec .auxFunctionWrite s =
          .next (u.seeHot.replied .supervisor 0x21 (storedStatus v w) (paramBody (0x070 + k.val) slot w)) :=
        exec_auxFunctionWrite_of_waits hslot hv k h
      have hlevel : u.hotLevel = hot := Bool.eq_iff_iff.mpr ((hotLevel_iff u).trans hhot.symm)
      refine ⟨fun hsame => ?_, fun hchanged => ?_⟩
      · rw [hwrite, seeHot_of_same (hlevel.trans hsame)]
        rfl
      · rw [hwrite, seeHot_of_changed (hlevel ▸ hchanged), hlevel]
        rfl

end Sys2Proof.Machine

/-! ## A census of a part at rest

With no record, no claim, no pulse and no watch, stations that leave READY release nothing: a census moves LSIG and the rotor's demand
alone (R116, R137, R165). -/

namespace Sys2Proof.Machine

/-! ### The demand -/

/-- The demand is the one that R137 asks for. -/
def State.DemandFollows (s : State) : Prop := s.ecs.demandKind = s.demandFor.1 ∧ s.ecs.demandValue = s.demandFor.2

theorem evalDemand_of_follows {s : State} (h : s.DemandFollows) : s.evalDemand = s := if_pos ⟨h.1.symm, h.2.symm⟩

theorem evalDemand_of_moved {s : State} (h : ¬ s.DemandFollows) :
    s.evalDemand = (s.modEcs fun e => { e with demandKind := s.demandFor.1, demandValue := s.demandFor.2 }).evalRotor :=
  if_neg fun hc => h ⟨hc.1.symm, hc.2.symm⟩

theorem evalDemand_demandFor (s : State) : s.evalDemand.demandFor = s.demandFor := by
  obtain ⟨rotor, spinUp, stall, h⟩ := s.evalDemand_spec
  rw [h]
  rfl

/-- The evaluation of the demand leaves the demand at what R137 asks for. -/
theorem evalDemand_follows (s : State) : s.evalDemand.DemandFollows := by
  unfold State.DemandFollows
  rw [evalDemand_demandFor]
  obtain ⟨rotor, spinUp, stall, h⟩ := s.evalDemand_spec
  rw [h]
  exact ⟨rfl, rfl⟩

/-- R137 with station E not READY, or under E-stop. -/
theorem demandFor_of_stopped {s : State} (h : s.avail .e ≠ .ready ∨ s.lsig.estop = true) : s.demandFor = (.none, 0) := if_pos h

theorem follows_of_stopped {s : State} (h : s.avail .e ≠ .ready ∨ s.lsig.estop = true) (hkind : s.ecs.demandKind = .none)
    (hvalue : s.ecs.demandValue = 0) : s.DemandFollows := by
  unfold State.DemandFollows
  rw [demandFor_of_stopped h]
  exact ⟨hkind, hvalue⟩

/-- R137 with station E READY, no need and no economy time. -/
theorem demandFor_of_idle {s : State} (hready : s.avail .e = .ready) (hestop : s.lsig.estop = false) (hneed : s.ecs.need = [])
    (heconomy : s.ecs.economy = none) : s.demandFor =
      if s.activeParams.econEn = 0 then (.run, s.activeParams.runRpm) else (.idle, s.activeParams.idleRpm) := by
  unfold State.demandFor
  rw [if_neg (by simp [hready, hestop]), if_neg (by simp [hneed]), heconomy]
  rfl

/-- The demand that follows R137 is the one of its table. -/
theorem demandIsSet_of_follows {s : State} (h : s.DemandFollows) : s.DemandIsSet := by
  obtain ⟨hkind, hvalue⟩ := h
  refine ⟨fun hstop => ?_, fun hready hestop hruns => ?_, fun hready hestop hidle => ?_⟩
  · rw [demandFor_of_stopped hstop] at hkind hvalue
    exact ⟨hkind, hvalue⟩
  · have hd : s.demandFor = (.run, s.activeParams.runRpm) := by
      unfold State.demandFor
      rw [if_neg (by simp [hready, hestop])]
      split
      · rfl
      · next hneed =>
        split
        · rfl
        · next hecon =>
          rw [if_pos]
          rcases hruns with hn | he | ht
          · exact absurd hn hneed
          · exact absurd he hecon
          · exact Option.isSome_iff_ne_none.mpr ht
    rw [hd] at hkind hvalue
    exact ⟨hkind, hvalue⟩
  · obtain ⟨hneed, hecon, htimer⟩ : s.ecs.need = [] ∧ ¬ s.activeParams.econEn = 0 ∧ s.ecs.economy = none := by
      simpa [not_or] using hidle
    rw [demandFor_of_idle hready hestop hneed htimer, if_neg hecon] at hkind hvalue
    exact ⟨hkind, hvalue⟩

/-- The stations M and A do not enter the demand. -/
theorem evalDemand_modStation {st : Station} (h : st ≠ .e) (f : StationInfo → StationInfo) (s : State) :
    (s.modStation st f).evalDemand = s.evalDemand.modStation st f := by
  have hd : (s.modStation st f).demandFor = s.demandFor := by
    cases st
    case e => exact absurd rfl h
    all_goals rfl
  by_cases hf : s.DemandFollows
  · rw [evalDemand_of_follows hf]
    exact evalDemand_of_follows (s := s.modStation st f) (by unfold State.DemandFollows; rw [hd]; exact hf)
  · rw [evalDemand_of_moved hf, evalDemand_of_moved (s := s.modStation st f) (by unfold State.DemandFollows; rw [hd]; exact hf), hd]
    rfl

theorem follows_modStation {s : State} {st : Station} (h : st ≠ .e) (f : StationInfo → StationInfo) (hf : s.DemandFollows) :
    (s.modStation st f).DemandFollows := by
  have he := evalDemand_follows (s.modStation st f)
  rwa [evalDemand_modStation h, evalDemand_of_follows hf] at he

/-- A station E that was not READY and is not has no part in the demand either. -/
theorem follows_modStation_e {s : State} {f : StationInfo → StationInfo} (hwas : s.avail .e ≠ .ready)
    (his : (f s.lsig.stations.e).avail ≠ .ready) (hf : s.DemandFollows) : (s.modStation .e f).DemandFollows := by
  unfold State.DemandFollows at hf
  rw [demandFor_of_stopped (.inl hwas)] at hf
  exact follows_of_stopped (s := s.modStation .e f) (.inl his) hf.1 hf.2

/-! ### The rotor state and its watches -/

/-- The rotor state is the one that R138 reads, and the watches run only where R141 lets them. -/
def Ecs.Tied (band : Nat) (e : Ecs) : Prop :=
  RotorReads band e.demandKind e.demandValue e.speed e.rotor ∧ (e.spinUp ≠ none → e.rotor = .rampingUp) ∧ (e.stall ≠ none → e.Stalls)

/-- The reading of R138, case by case. -/
theorem rotorReading_reads (band : Nat) (kind : DemandKind) (demand speed : Nat) :
    RotorReads band kind demand speed (rotorReading band kind demand speed) := by
  unfold rotorReading
  refine ⟨fun h0 hs => ?_, fun h0 hs => ?_, fun h0 hs => ?_, fun h0 hs => ?_, fun h0 hlow hhigh => ?_⟩
  · rw [if_pos h0, if_pos hs]
  · rw [if_pos h0, if_neg (Nat.not_lt.mpr hs)]
  · rw [if_neg h0.ne', if_pos hs]
  · have hband : demand * (100 - band) / 100 ≤ (demand * (100 + band) + 99) / 100 :=
      Nat.div_le_div_right ((Nat.mul_le_mul_left demand (by omega)).trans (Nat.le_add_right _ 99))
    rw [if_neg h0.ne', if_neg (by omega), if_pos hs]
  · rw [if_neg h0.ne', if_neg (Nat.not_lt.mpr hlow), if_neg (Nat.not_lt.mpr hhigh)]

theorem evalRotor_tied (s : State) : s.evalRotor.ecs.Tied s.line.rotorBand := by
  refine ⟨rotorReading_reads _ _ _ _, fun h => ?_, fun h => ?_⟩
  · by_contra hc
    exact h (if_neg hc)
  · by_contra hc
    exact h (if_neg hc)

theorem evalDemand_tied {s : State} (h : s.ecs.Tied s.line.rotorBand) : s.evalDemand.ecs.Tied s.line.rotorBand := by
  by_cases hf : s.DemandFollows
  · rwa [evalDemand_of_follows hf]
  · rw [evalDemand_of_moved hf]
    exact evalRotor_tied _

/-- Without a demand the rotor does not ramp up, and no watch runs. -/
theorem quiet_of_tied {band : Nat} {e : Ecs} (h : e.Tied band) (h0 : e.demandValue = 0) :
    e.rotor ≠ .rampingUp ∧ e.spinUp = none ∧ e.stall = none := by
  obtain ⟨⟨hslow, hfast, -⟩, hspin, hstall⟩ := h
  have hrotor : e.rotor ≠ .rampingUp := by
    rcases Nat.lt_or_ge e.speed 50 with hs | hs
    · rw [hslow h0 hs]
      decide
    · rw [hfast h0 hs]
      decide
  refine ⟨hrotor, ?_, ?_⟩
  · by_contra hc
    exact hrotor (hspin hc)
  · by_contra hc
    obtain ⟨hpos, -⟩ := hstall hc
    omega

/-! ### Changes that change nothing -/

section NoChange
variable {s : State}

theorem modTab_of_eq {f : Table → Table} (h : f s.tab = s.tab) : s.modTab f = s := by
  unfold State.modTab
  rw [h]

theorem modArb_of_eq {f : Arb → Arb} (h : f s.arb = s.arb) : s.modArb f = s := by
  unfold State.modArb
  rw [h]

theorem modMag_of_eq {f : Mag → Mag} (h : f s.mag = s.mag) : s.modMag f = s := by
  unfold State.modMag
  rw [h]

theorem modEcs_of_eq {f : Ecs → Ecs} (h : f s.ecs = s.ecs) : s.modEcs f = s := by
  unfold State.modEcs
  rw [h]

theorem modJet_of_eq {f : Jet → Jet} (h : f s.jet = s.jet) : s.modJet f = s := by
  unfold State.modJet
  rw [h]

end NoChange

/-! ### A part at rest -/

/-- No record, no claim, no pulse and no watch; every segment is OFF. -/
structure State.AtRest (s : State) : Prop where
  records : s.tab.records = []
  claims : s.arb = Arb.reset
  segments : ∀ k : Fin 8, s.mag.segments[k].power = .off ∧ s.mag.segments[k].holding = [] ∧ s.mag.segments[k].watches = []
  magWatch : s.mag.okWatch = none
  landing : ∀ k : Fin 4, s.ecs.flaps[k].watches = []
  driveWatch : s.ecs.driveWatch = none
  flapWatch : s.ecs.flapWatch = none
  pulses : ∀ n : Fin 64, s.jet.pulses[n] = []
  jetWatch : s.jet.okWatch = none

namespace State.AtRest
variable {s : State}

theorem modStation (h : s.AtRest) (st : Station) (f : StationInfo → StationInfo) : (s.modStation st f).AtRest := { h with }

theorem evalDemand (h : s.AtRest) : s.evalDemand.AtRest := by
  obtain ⟨rotor, spinUp, stall, he⟩ := s.evalDemand_spec
  rw [he]
  exact { h with }

/-- With nothing held, the magnet releases nothing (R133). -/
theorem magnetReleases (h : s.AtRest) : s.magnetReleases = s := by
  have hg : (s.mag.segments.mapIdx fun _ g =>
      ({ g with holding := [], watches := [] } : Segment).fallIfFree s.now s.line.magFallMs) = s.mag.segments := by
    refine Vector.ext fun k hk => ?_
    obtain ⟨hpower, hholding, hwatches⟩ := h.segments ⟨k, hk⟩
    simp only [Vector.getElem_mapIdx, Fin.getElem_fin] at *
    generalize s.mag.segments[k] = g at *
    obtain ⟨power, holding, completion, heat, cooling, watches⟩ := g
    subst hpower hholding hwatches
    rfl
  unfold State.magnetReleases State.modSegments
  refine modMag_of_eq ?_
  rw [hg]

theorem closeAllLanding (h : s.AtRest) : s.closeAllLanding = s := by
  have hf : (s.ecs.flaps.mapIdx fun _ f => { f with watches := [] }) = s.ecs.flaps := by
    refine Vector.ext fun k hk => ?_
    have hwatches := h.landing ⟨k, hk⟩
    simp only [Vector.getElem_mapIdx, Fin.getElem_fin] at *
    rw [← hwatches]
  unfold State.closeAllLanding State.modFlaps
  refine modEcs_of_eq ?_
  rw [hf]

theorem dropPulses (h : s.AtRest) : s.dropPulses = s := by
  have hp : (s.jet.pulses.mapIdx fun _ _ => []) = s.jet.pulses := by
    refine Vector.ext fun n hn => ?_
    rw [Vector.getElem_mapIdx]
    exact (h.pulses ⟨n, hn⟩).symm
  unfold State.dropPulses State.modPulses
  refine modJet_of_eq ?_
  rw [hp]

/-- No station's own block has anything to release (R133, R147, R159). -/
theorem blockLeaves (h : s.AtRest) (st : Station) : s.blockLeaves st = s := by
  unfold State.blockLeaves
  cases st with
  | m =>
    simp only [h.magnetReleases]
    exact modMag_of_eq (by rw [← h.magWatch])
  | e =>
    simp only [h.closeAllLanding]
    refine modEcs_of_eq ?_
    calc ({ s.ecs with driveWatch := none, flapWatch := none } : Ecs)
      _ = { s.ecs with driveWatch := s.ecs.driveWatch, flapWatch := s.ecs.flapWatch } := by rw [h.driveWatch, h.flapWatch]
  | a =>
    simp only [h.dropPulses]
    exact modJet_of_eq (by rw [← h.jetWatch])

/-- A station that leaves READY moves the demand alone (R116). -/
theorem leaveReady (h : s.AtRest) (st : Station) (why : Reason) : s.leaveReady st why = s.evalDemand := by
  have harb : Arb.reset.map st (fun _ _ => []) = Arb.reset := by cases st <;> rfl
  unfold State.leaveReady
  simp only
  rw [modTab_of_eq (by rw [h.records, List.map_nil, ← h.records]), modArb_of_eq (by rw [h.claims, harb]), h.blockLeaves st, h.records]
  exact ite_self _

end State.AtRest

/-! ### The census -/

/-- What LSIG holds for the stations. -/
def State.withStations (m e a : StationInfo) (s : State) : State := s.modLsig fun l => { l with stations := { m := m, e := e, a := a } }

section Census
variable {s : State}

/-- A station of a part at rest that takes a state other than READY moves the demand alone. -/
theorem goTo_of_atRest (h : s.AtRest) (hf : s.DemandFollows) (st : Station) {avail : Avail} (ha : avail ≠ .ready) (wait : Option W32)
    (why : Reason) : s.goTo st avail wait why = (s.modStation st fun i => { i with avail := avail, wait := wait }).evalDemand := by
  unfold State.goTo
  simp only
  split
  · exact (h.modStation st _).leaveReady st why
  · next hready =>
    refine (evalDemand_of_follows ?_).symm
    by_cases he : st = .e
    · subst he
      exact follows_modStation_e hready ha hf
    · exact follows_modStation he _ hf

/-- The state of a station after its census took its OK input (R165). -/
def StationInfo.answered (ok : Bool) (i : StationInfo) : StationInfo := if ok then { i with avail := .ready, wait := none } else i

theorem answered_of_waiting (ok : Bool) (now : W32) (waitMs : Nat) (i : StationInfo) :
    StationInfo.answered ok { i with avail := .interrogating, wait := some (after now (waitMs * 1000)) } =
      censused ok now waitMs i.acted := by
  cases ok <;> rfl

/-- A station answers its census at once where its OK input is asserted (R165). -/
def State.answer (st : Station) (s : State) : State := if okInput s.inputs st then s.becomeReady st else s

theorem censusOf_eq_answer (s : State) : s.censusOf allStations =
    (((s.goAll allStations .interrogating (some (after s.now (s.line.censusWaitMs * 1000))) .offline).answer .m).answer .e).answer .a := rfl

theorem answer_of_follows {st : Station} (he : st ≠ .e) (hf : s.DemandFollows) :
    s.answer st = s.modStation st (StationInfo.answered (okInput s.inputs st)) := by
  unfold State.answer State.becomeReady
  rw [evalDemand_of_follows (follows_modStation he _ hf)]
  cases okInput s.inputs st
  · cases st <;> rfl
  · rfl

theorem evalDemand_inputs (s : State) : s.evalDemand.inputs = s.inputs := evalDemand_within s .inputs (by decide)

theorem evalDemand_lsig (s : State) : s.evalDemand.lsig = s.lsig := by
  obtain ⟨rotor, spinUp, stall, h⟩ := s.evalDemand_spec
  rw [h]

/-- A census of the three stations of a part at rest: M and A take their states, and the demand follows E to INTERROGATING and, where its
OK input is asserted, to READY. -/
theorem censusOf_of_atRest (h : s.AtRest) (hf : s.DemandFollows) :
    let info (st : Station) := censused (okInput s.inputs st) s.now s.line.censusWaitMs (s.lsig.stations.get st).acted
    let waiting := (s.withStations (info .m) (censused false s.now s.line.censusWaitMs s.lsig.stations.e.acted) (info .a)).evalDemand
    s.censusOf allStations =
      if okInput s.inputs .e then (waiting.withStations (info .m) (info .e) (info .a)).evalDemand else waiting := by
  intro info waiting
  let fw : StationInfo → StationInfo := fun i =>
    { i with avail := .interrogating, wait := some (after s.now (s.line.censusWaitMs * 1000)) }
  let gm := StationInfo.answered (okInput s.inputs .m)
  let ga := StationInfo.answered (okInput s.inputs .a)
  let s1 := s.modStation .m fw
  let s2 := (s1.modStation .e fw).evalDemand
  let s3 := s2.modStation .a fw
  let s4 := s3.modStation .m gm
  have hm : s1.AtRest ∧ s1.DemandFollows := ⟨h.modStation .m fw, follows_modStation (by decide) fw hf⟩
  have he : s2.AtRest ∧ s2.DemandFollows := ⟨(hm.1.modStation .e fw).evalDemand, evalDemand_follows _⟩
  have ha : s3.DemandFollows := follows_modStation (by decide) fw he.2
  have h4 : s4.DemandFollows := follows_modStation (by decide) gm ha
  have hin : s4.inputs = s.inputs := evalDemand_inputs (s1.modStation .e fw)
  have hgone : s.goAll allStations .interrogating (some (after s.now (s.line.censusWaitMs * 1000))) .offline = s3 := by
    rw [goAll_of_no_records h.records]
    show ((s.goTo .m _ _ _).goTo .e _ _ _).goTo .a _ _ _ = s3
    rw [goTo_of_atRest h hf .m (by decide), evalDemand_of_follows hm.2, goTo_of_atRest hm.1 hm.2 .e (by decide),
      goTo_of_atRest he.1 he.2 .a (by decide), evalDemand_of_follows ha]
  have hwaiting : s4.modStation .a ga = waiting := by
    show (((s1.modStation .e fw).evalDemand.modStation .a fw).modStation .m gm).modStation .a ga = waiting
    rw [← evalDemand_modStation (by decide), ← evalDemand_modStation (by decide), ← evalDemand_modStation (by decide)]
    refine congrArg State.evalDemand ?_
    show _ = s.withStations (info .m) _ (info .a)
    rw [show info .m = gm (fw s.lsig.stations.m) from (answered_of_waiting _ _ _ _).symm,
      show info .a = ga (fw s.lsig.stations.a) from (answered_of_waiting _ _ _ _).symm]
    rfl
  let s5 := s4.answer .e
  have h5 : s5.DemandFollows ∧ s5.inputs = s.inputs := by
    show (if okInput s4.inputs .e then _ else s4).DemandFollows ∧ (if okInput s4.inputs .e then _ else s4).inputs = s.inputs
    split
    · exact ⟨evalDemand_follows _, (evalDemand_inputs _).trans hin⟩
    · exact ⟨h4, hin⟩
  have hcensus : s.censusOf allStations = s5.modStation .a ga := by
    rw [censusOf_eq_answer, hgone, answer_of_follows (by decide) ha, show s3.inputs = s.inputs from hin]
    show s5.answer .a = _
    rw [answer_of_follows (by decide) h5.1, h5.2]
  rw [hcensus]
  show (if okInput s4.inputs .e then s4.becomeReady .e else s4).modStation .a ga = _
  rw [hin]
  split
  · next hok =>
    have hl : waiting.lsig = _ := evalDemand_lsig _
    show (s4.modStation .e fun i => { i with avail := .ready, wait := none }).evalDemand.modStation .a ga = _
    rw [← evalDemand_modStation (by decide)]
    refine congrArg State.evalDemand ?_
    calc ((s4.modStation .e fun i => { i with avail := .ready, wait := none }).modStation .a ga)
      _ = ((s4.modStation .a ga).modStation .e fun i => { i with avail := .ready, wait := none }) := rfl
      _ = (waiting.modStation .e fun i => { i with avail := .ready, wait := none }) := by rw [hwaiting]
      _ = waiting.withStations (info .m) (info .e) (info .a) := by
        have hready : info .e = { avail := .ready, wait := none, acted := s.lsig.stations.e.acted } := if_pos hok
        unfold State.modStation State.withStations State.modLsig
        rw [hl, hready]
        rfl
  · exact hwaiting

end Census

end Sys2Proof.Machine

/-! ## The hard reset (R17, R25, R39, R61, R68, R85, R101, R118, R134, R149, R161, R172) -/

namespace Sys2Proof.Machine

/-- The recipe slots after a hard reset, with the default recipe under the default ROTOR_MAX_RPM (R85, R101). -/
theorem reset_slots (k : Fin 3) :
    State.reset.rcp.slots[k] = { state := if k = 0 then .active else .free, refs := 0, recipe := Recipe.default 4000 } := by
  fin_cases k <;> rfl

/-- No list of ARB holds a claim after a reset (R118). -/
theorem reset_lists (st : Station) : ∀ l ∈ Arb.reset.lists st, l = [] := by
  intro l hl
  cases st <;> simp_all [Arb.reset, Arb.lists]

section Blank
variable (levels : Inputs) (draws : Nat) (pending : List Instr)

theorem blank_atRest : (State.blank levels draws pending).AtRest where
  records := rfl
  claims := rfl
  segments k := by simp [State.blank, Mag.reset, Segment.reset]
  magWatch := rfl
  landing k := by simp [State.blank, Ecs.reset, Flap.reset]
  driveWatch := rfl
  flapWatch := rfl
  pulses n := by simp [State.blank, Jet.reset]
  jetWatch := rfl

theorem blank_follows : (State.blank levels draws pending).DemandFollows := 
  follows_of_stopped (.inl (show Avail.interrogating ≠ .ready by decide)) rfl rfl

/-- With E READY after a hard reset the demand is IDLE, and the rotor ramps up from standstill (R137, R138, R141). -/
theorem blank_evalDemand_ready (m a : StationInfo) :
    let s := (State.blank levels draws pending).withStations m { avail := .ready, wait := none, acted := false } a
    s.evalDemand =
      { s with ecs := { Ecs.reset with
          demandKind := .idle, demandValue := 800, rotor := .rampingUp, spinUp := some 12000000, stall := some 2000000 } } := by
  intro s
  have hd : s.demandFor = (.idle, 800) := demandFor_of_idle rfl rfl rfl rfl
  have hmoved : ¬ s.DemandFollows := by
    unfold State.DemandFollows
    rw [hd]
    show ¬ (DemandKind.none = .idle ∧ _)
    simp
  have hreading : rotorReading 3 .idle 800 0 = .rampingUp := by decide
  have hspin : spinUpAfter 0 6000 .stopped .rampingUp none = some 12000000 := by decide
  have hstall : stallAfter 0 800 0 none = some 2000000 := by decide
  have hrotor : s.evalDemand = { s with ecs := { Ecs.reset with
      demandKind := .idle, demandValue := 800, rotor := rotorReading 3 .idle 800 0
      spinUp := spinUpAfter 0 6000 .stopped (rotorReading 3 .idle 800 0) none, stall := stallAfter 0 800 0 none } } := by
    rw [evalDemand_of_moved hmoved, hd]
    rfl
  rw [hrotor, hreading, hspin, hstall]

end Blank

/-- The state after a hard reset and its census: E and the demand by its OK inputs, M and A by theirs (R165, R172). -/
theorem blank_censusOf (levels : Inputs) (draws : Nat) (pending : List Instr) :
    let info (st : Station) := censused (okInput levels st) 0 500 false
    (State.blank levels draws pending).censusOf allStations =
      { (State.blank levels draws pending).withStations (info .m) (info .e) (info .a) with
        ecs := if okInput levels .e then { Ecs.reset with
            demandKind := .idle, demandValue := 800, rotor := .rampingUp, spinUp := some 12000000, stall := some 2000000 }
          else Ecs.reset } := by
  intro info
  have hwaiting : ((State.blank levels draws pending).withStations (info .m) (censused false 0 500 false) (info .a)).evalDemand =
      (State.blank levels draws pending).withStations (info .m) (censused false 0 500 false) (info .a) :=
    evalDemand_of_follows (follows_of_stopped (.inl (show Avail.interrogating ≠ .ready by decide)) rfl rfl)
  have hcensus := censusOf_of_atRest (blank_atRest levels draws pending) (blank_follows levels draws pending)
  refine hcensus.trans ?_
  show (if okInput levels .e then State.evalDemand (State.withStations (info .m) (info .e) (info .a)
    (State.evalDemand (State.withStations (info .m) (censused false 0 500 false) (info .a) _))) else State.evalDemand _) = _
  rw [hwaiting]
  by_cases hok : okInput levels .e = true
  · have hready : info .e = { avail := .ready, wait := none, acted := false } := if_pos hok
    rw [if_pos hok, if_pos hok, hready]
    exact blank_evalDemand_ready levels draws pending (info .m) (info .a)
  · have hwait : info .e = censused false 0 500 false := (if_neg hok).trans rfl
    rw [if_neg hok, if_neg hok, hwait]
    rfl

/-- Settles O4: the first part by the model's values, the second by the census of a part at rest. -/
theorem hardResetPutsEveryBlockBack : Obligations.HardResetPutsEveryBlockBack := by
  unfold Obligations.HardResetPutsEveryBlockBack
  refine ⟨?_, ?_⟩
  · refine ⟨⟨rfl, rfl, rfl, rfl, rfl, rfl, rfl, rfl, rfl, rfl, rfl⟩, ?coils, rfl, rfl, rfl, rfl, rfl, rfl,
      ⟨rfl, rfl, rfl, rfl, rfl, rfl, rfl⟩, ⟨rfl, rfl, rfl, rfl, ?slots⟩, rfl, ?claims, ?segments, rfl, rfl, rfl, rfl,
      ⟨rfl, rfl, rfl, rfl, rfl, rfl, rfl, rfl, rfl, rfl, rfl, rfl, ?flaps⟩, ?pulses, rfl, ⟨rfl, rfl, rfl, rfl, rfl⟩, ?stations, ?links⟩
    case coils => exact fun k => by simp [State.reset, State.blank, Scan.reset, Coil.reset]
    case slots =>
      intro k
      rw [reset_slots k]
      refine ⟨rfl, fun row n => ?_, rfl, rfl⟩
      simp [Recipe.default, RouteEntry.default]
    case claims => exact reset_lists
    case segments => exact fun k => by simp [State.reset, State.blank, Mag.reset, Segment.reset]
    case flaps => exact fun k => (Vector.getElem_replicate k.isLt).trans rfl
    case pulses => exact (blank_atRest Inputs.low 0 []).pulses
    case stations => exact fun st => by cases st <;> rfl
    case links => exact fun l => by cases l <;> exact ⟨rfl, rfl, rfl, rfl, rfl, rfl, rfl⟩
  · intro levels s info
    refine congrArg Host.Outcome.next ?_
    rw [blank_censusOf]
    rfl

end Sys2Proof.Machine

/-! ## RESTART (R18, R25, R39, R60, R68, R101, R117, R134, R149, R161, R171) -/

namespace Sys2Proof.Machine

/-! ### The rotor after a census -/

/-- With no demand, the rotor state and its watches are as R138 and R141 have them of themselves. -/
theorem rotorAfresh_of_stopped (s : State) {t : State} (hf : t.DemandFollows) (ht : t.ecs.Tied t.line.rotorBand)
    (h0 : t.ecs.demandValue = 0) : s.RotorAfresh t := by
  obtain ⟨hrotor, hspin, hstall⟩ := quiet_of_tied ht h0
  refine ⟨demandIsSet_of_follows hf, ht.1, fun h => absurd h hrotor, fun _ => hspin, fun h => ?_, fun _ => hstall⟩
  obtain ⟨hpos, -⟩ := h
  omega

/-- A demand that moves while no watch runs sets each watch at this moment (R141). -/
theorem rotorAfresh_of_moved {s t : State} (hmoved : ¬ t.DemandFollows) (hrotor : t.ecs.rotor ≠ .rampingUp) (hstall : t.ecs.stall = none)
    (hnow : t.now = s.now) : s.RotorAfresh t.evalDemand := by
  have hset := demandIsSet_of_follows (evalDemand_follows t)
  rw [evalDemand_of_moved hmoved] at hset ⊢
  obtain ⟨hreads, -⟩ := evalRotor_tied (t.modEcs fun e => { e with demandKind := t.demandFor.1, demandValue := t.demandFor.2 })
  refine ⟨hset, hreads, fun h => ?_, fun h => if_neg h, fun h => ?_, fun h => if_neg h⟩
  · refine (if_pos h).trans ((if_neg hrotor).trans ?_)
    rw [← hnow]
    rfl
  · refine (if_pos h).trans ?_
    show (match t.ecs.stall with | some x => some x | none => some (after t.now 2000000)) = _
    rw [hstall, ← hnow]
    rfl

/-- ECS with another demand and rotor state, and other watches over it. -/
def Ecs.withRotor (kind : DemandKind) (value : Nat) (rotor : RotorState) (spinUp stall : Option W32) (e : Ecs) : Ecs :=
  { e with demandKind := kind, demandValue := value, rotor := rotor, spinUp := spinUp, stall := stall }

/-- Between two states ECS has moved the demand, the rotor state and the two watches over it, and no more. -/
def State.RotorMoves (s t : State) : Prop :=
  ∃ kind value rotor spinUp stall, t = s.modEcs (Ecs.withRotor kind value rotor spinUp stall)

theorem evalDemand_rotorMoves (s : State) : s.RotorMoves s.evalDemand := by
  obtain ⟨rotor, spinUp, stall, h⟩ := s.evalDemand_spec
  exact ⟨s.demandFor.1, s.demandFor.2, rotor, spinUp, stall, h⟩

theorem State.RotorMoves.refl (s : State) : s.RotorMoves s :=
  ⟨s.ecs.demandKind, s.ecs.demandValue, s.ecs.rotor, s.ecs.spinUp, s.ecs.stall, rfl⟩

theorem State.RotorMoves.trans {s t u : State} (h : s.RotorMoves t) (h' : t.RotorMoves u) : s.RotorMoves u := by
  obtain ⟨_, _, _, _, _, rfl⟩ := h
  obtain ⟨kind, value, rotor, spinUp, stall, rfl⟩ := h'
  exact ⟨kind, value, rotor, spinUp, stall, rfl⟩

theorem State.RotorMoves.line {s t : State} (h : s.RotorMoves t) : t.line = s.line := by
  obtain ⟨_, _, _, _, _, rfl⟩ := h
  rfl

theorem State.RotorMoves.inputs {s t : State} (h : s.RotorMoves t) : t.inputs = s.inputs := by
  obtain ⟨_, _, _, _, _, rfl⟩ := h
  rfl

theorem State.RotorMoves.lsig {s t : State} (h : s.RotorMoves t) : t.lsig = s.lsig := by
  obtain ⟨_, _, _, _, _, rfl⟩ := h
  rfl

theorem State.RotorMoves.now {s t : State} (h : s.RotorMoves t) : t.now = s.now := by
  obtain ⟨_, _, _, _, _, rfl⟩ := h
  rfl

/-- A census of a part at rest leaves the demand at what R137 asks for, moves the rotor and LSIG's stations, and leaves the rotor afresh. -/
theorem censusOf_of_atRest_spec {s : State} (h : s.AtRest) (hf : s.DemandFollows) :
    let info (st : Station) := censused (okInput s.inputs st) s.now s.line.censusWaitMs (s.lsig.stations.get st).acted
    (s.withStations (info .m) (info .e) (info .a)).RotorMoves (s.censusOf allStations) ∧ (s.censusOf allStations).DemandFollows ∧
      (s.ecs.Tied s.line.rotorBand → s.RotorAfresh (s.censusOf allStations)) := by
  intro info
  have hcensus := censusOf_of_atRest h hf
  simp only at hcensus
  rw [hcensus]
  generalize hw : (s.withStations _ (censused false _ _ _) _).evalDemand = waiting
  have hmoves : State.RotorMoves (s.withStations (info .m) _ (info .a)) waiting := hw ▸ evalDemand_rotorMoves _
  have hfollows : waiting.DemandFollows := hw ▸ evalDemand_follows _
  have h0 : waiting.ecs.demandValue = 0 := by
    have hstop : waiting.demandFor = (.none, 0) := by
      rw [← hw, evalDemand_demandFor]
      exact demandFor_of_stopped (.inl (show Avail.interrogating ≠ .ready by decide))
    exact hfollows.2.trans (by rw [hstop])
  have htied : s.ecs.Tied s.line.rotorBand → waiting.ecs.Tied waiting.line.rotorBand := fun ht => by
    have hline : waiting.line = s.line := hmoves.line
    rw [hline, ← hw]
    exact evalDemand_tied ht
  by_cases hok : okInput s.inputs .e = true
  · rw [if_pos hok]
    have hanswered : (s.withStations (info .m) (info .e) (info .a)).RotorMoves (waiting.withStations (info .m) (info .e) (info .a)) := by
      obtain ⟨kind, value, rotor, spinUp, stall, he⟩ := hmoves
      exact ⟨kind, value, rotor, spinUp, stall, congrArg (State.withStations (info .m) (info .e) (info .a)) he⟩
    refine ⟨hanswered.trans (evalDemand_rotorMoves _), evalDemand_follows _, fun ht => ?_⟩
    obtain ⟨hrotor, -, hstall⟩ := quiet_of_tied (htied ht) h0
    by_cases hsame : (waiting.withStations (info .m) (info .e) (info .a)).DemandFollows
    · rw [evalDemand_of_follows hsame]
      exact rotorAfresh_of_stopped s hsame (htied ht) h0
    · exact rotorAfresh_of_moved hsame hrotor hstall hmoves.now
  · have hwait : info .e = censused false s.now s.line.censusWaitMs s.lsig.stations.e.acted := by
      show censused (okInput s.inputs .e) _ _ _ = _
      rw [Bool.eq_false_iff.mpr hok]
      rfl
    rw [if_neg hok, hwait]
    exact ⟨hmoves, hfollows, fun ht => rotorAfresh_of_stopped s hfollows (htied ht) h0⟩

/-! ### What comes before the census -/

/-- PURGE but for the need set, block by block (R38, R59, R101, R117, R134, R149, R161). -/
def State.purged (s : State) : State :=
  { s with
    seg := s.seg.purge
    tab := s.tab.purge
    rcp := { s.rcp with slots := s.rcp.slots.mapIdx fun _ k => k.purge s.line.rotorMaxRpm }
    arb := Arb.reset
    mag := s.magnetReleases.mag
    ecs := { s.ecs with flaps := s.ecs.flaps.mapIdx fun _ f => { f with watches := [] } }
    jet := { s.jet with pulses := s.jet.pulses.mapIdx fun _ _ => [] } }

theorem purge_eq (s : State) : s.purge = s.purged.purgeNeed := rfl

/-- What RESTART gives after PURGE but for the demand and the census, block by block. -/
def State.cleared (s : State) : State :=
  { s with
    pos := s.pos.restart
    scan := s.scan.restart
    seg := Seg.reset
    tab := { s.tab with tagCounter := 1 }
    rcp := { s.rcp with psw := none }
    mag := s.magnetRestarts.mag
    ecs := { s.ecs with economy := none, driveWatch := none, flapWatch := none }
    jet := { s.jet with okWatch := none }
    lsig := s.lsigRestarts.lsig
    clink := { s.clink with rxQueue := [] } }

theorem cleared_eq (s : State) : s.restartBlocks.lsigRestarts = s.cleared := rfl

theorem purgeNeed_rotorMoves (s : State) : ∃ economy,
    (s.modEcs fun e => { e with need := [], economy := economy }).RotorMoves s.purgeNeed := by
  unfold State.purgeNeed
  split
  · next h =>
    refine ⟨s.ecs.economy, ?_⟩
    rw [modEcs_of_eq (by rw [← h])]
    exact State.RotorMoves.refl s
  · exact ⟨_, evalDemand_rotorMoves _⟩

theorem purgeNeed_tied {s : State} (h : s.ecs.Tied s.line.rotorBand) : s.purgeNeed.ecs.Tied s.line.rotorBand := by
  unfold State.purgeNeed
  split
  · exact h
  · exact evalDemand_tied (s := State.startEconomy _) h

theorem State.RotorMoves.cleared {s t : State} (h : s.RotorMoves t) : s.cleared.RotorMoves t.cleared := by
  obtain ⟨kind, value, rotor, spinUp, stall, rfl⟩ := h
  exact ⟨kind, value, rotor, spinUp, stall, rfl⟩

/-- What RESTART gives in each block, the demand and the census apart. -/
def State.restarted (s : State) : State := (s.purged.modEcs fun e => { e with need := [] }).cleared

/-- RESTART before its census. -/
def State.uncensused (s : State) : State := s.purge.restartBlocks.lsigRestarts.evalDemand

theorem restart_eq (s : State) : s.restart = if s.uncensused.lsig.estop then s.uncensused else s.uncensused.censusOf allStations := rfl

theorem uncensused_eq (s : State) : s.uncensused = s.purged.purgeNeed.cleared.evalDemand := by
  unfold State.uncensused
  rw [purge_eq, cleared_eq]

theorem restarted_rotorMoves (s : State) : s.restarted.RotorMoves s.uncensused := by
  rw [uncensused_eq]
  obtain ⟨economy, hneed⟩ := purgeNeed_rotorMoves s.purged
  exact State.RotorMoves.trans hneed.cleared (evalDemand_rotorMoves _)

theorem uncensused_follows (s : State) : s.uncensused.DemandFollows := evalDemand_follows _

theorem uncensused_tied {s : State} (h : s.ecs.Tied s.line.rotorBand) : s.uncensused.ecs.Tied s.line.rotorBand := by
  rw [uncensused_eq]
  have hpurge : s.purged.purgeNeed.ecs.Tied s.line.rotorBand := purgeNeed_tied (s := s.purged) h
  have hline : s.purged.purgeNeed.cleared.line = s.line := purgeNeed_within s.purged .line (by decide)
  have hcleared : s.purged.purgeNeed.cleared.ecs.Tied s.purged.purgeNeed.cleared.line.rotorBand := by
    rw [hline]
    exact hpurge
  rw [← hline]
  exact evalDemand_tied hcleared

/-! ### The blocks after RESTART -/

/-- A segment whose drive ends keeps its heat account and COOLING. -/
theorem fallIfFree_heat (now : W32) (fallMs : Nat) (g : Segment) :
    (g.fallIfFree now fallMs).heat = g.heat ∧ (g.fallIfFree now fallMs).cooling = g.cooling := by
  unfold Segment.fallIfFree
  split <;> exact ⟨rfl, rfl⟩

theorem restarted_segments (s : State) (k : Fin 8) : s.restarted.mag.segments[k] =
    { s.mag.segments[k] with power := .off, holding := [], completion := none, watches := [] } := by
  have hm : s.restarted.mag.segments = s.magnetReleases.mag.segments.mapIdx fun _ g =>
    { g with power := .off, holding := [], completion := none, watches := [] } := rfl
  have hr : s.magnetReleases.mag.segments = s.mag.segments.mapIdx fun _ g =>
    ({ g with holding := [], watches := [] } : Segment).fallIfFree s.now s.line.magFallMs := rfl
  rw [hm, hr]
  simp only [Fin.getElem_fin, Vector.getElem_mapIdx]
  obtain ⟨hheat, hcooling⟩ := fallIfFree_heat s.now s.line.magFallMs { s.mag.segments[k.val] with holding := [], watches := [] }
  rw [hheat, hcooling]

theorem restarted_flaps (s : State) (k : Fin 4) : s.restarted.ecs.flaps[k] = { s.ecs.flaps[k] with watches := [] } :=
  Vector.getElem_mapIdx _

theorem restarted_atRest (s : State) : s.restarted.AtRest where
  records := rfl
  claims := rfl
  segments k := by
    rw [restarted_segments]
    exact ⟨rfl, rfl, rfl⟩
  magWatch := rfl
  landing k := by rw [restarted_flaps]
  driveWatch := rfl
  flapWatch := rfl
  pulses n := Vector.getElem_mapIdx n.isLt
  jetWatch := rfl

theorem State.RotorMoves.atRest {s t : State} (hm : s.RotorMoves t) (h : s.AtRest) : t.AtRest := by
  obtain ⟨_, _, _, _, _, rfl⟩ := hm
  exact { h with }

theorem State.RotorMoves.withStations {s t : State} (hm : s.RotorMoves t) (m e a : StationInfo) :
    (s.withStations m e a).RotorMoves (t.withStations m e a) := by
  obtain ⟨kind, value, rotor, spinUp, stall, rfl⟩ := hm
  exact ⟨kind, value, rotor, spinUp, stall, rfl⟩

/-- What LSIG holds for a station after RESTART: the answer to a census with the acted flag cleared, and under E-stop only the flag. -/
def State.infoRestarted (s : State) (st : Station) : StationInfo :=
  if s.lsig.estop then { s.lsig.stations.get st with acted := false }
  else censused (okInput s.inputs st) s.now s.line.censusWaitMs false

theorem infoRestarted_of_ok {s : State} {st : Station} (hestop : s.lsig.estop = false) (hok : okInput s.inputs st = true) :
    (s.infoRestarted st).avail = .ready := by
  simp [State.infoRestarted, censused, hestop, hok]

theorem infoRestarted_of_not_ok {s : State} {st : Station} (hestop : s.lsig.estop = false) (hok : okInput s.inputs st = false) :
    (s.infoRestarted st).avail ≠ .ready := by
  simp [State.infoRestarted, censused, hestop, hok]

/-- RESTART: each block's part, the stations' censuses, the demand of R137, and the rotor afresh. -/
theorem restart_spec (s : State) :
    (s.restarted.withStations (s.infoRestarted .m) (s.infoRestarted .e) (s.infoRestarted .a)).RotorMoves s.restart ∧
      s.restart.DemandFollows ∧ (s.ecs.Tied s.line.rotorBand → s.RotorAfresh s.restart) := by
  have hmoves := restarted_rotorMoves s
  have hline : s.uncensused.line = s.line := hmoves.line
  have hnow : s.uncensused.now = s.now := hmoves.now
  have hlsig : s.uncensused.lsig = s.lsigRestarts.lsig := hmoves.lsig
  have hin : s.uncensused.inputs = s.inputs := hmoves.inputs
  rw [restart_eq]
  unfold State.infoRestarted
  by_cases hestop : s.lsig.estop = true
  · have hstop : s.uncensused.lsig.estop = true := by rw [hlsig]; exact hestop
    rw [if_pos hstop, if_pos hestop, if_pos hestop, if_pos hestop]
    refine ⟨hmoves, uncensused_follows s, fun ht => ?_⟩
    refine rotorAfresh_of_stopped s (uncensused_follows s) (hline ▸ uncensused_tied ht) ?_
    exact (uncensused_follows s).2.trans (by rw [demandFor_of_stopped (.inr hstop)])
  · have hgo : ¬ s.uncensused.lsig.estop = true := by rw [hlsig]; exact hestop
    rw [if_neg hgo, if_neg hestop, if_neg hestop, if_neg hestop]
    obtain ⟨hcensus, hfollows, hafresh⟩ := censusOf_of_atRest_spec (hmoves.atRest (restarted_atRest s)) (uncensused_follows s)
    rw [hin, hline, hnow, hlsig] at hcensus
    refine ⟨(hmoves.withStations _ _ _).trans hcensus, hfollows, fun ht => ?_⟩
    have ha := hafresh (hline ▸ uncensused_tied ht)
    unfold State.RotorAfresh at ha ⊢
    rwa [hnow] at ha

/-! ### The ACTIVE slot -/

theorem purge_state_active_iff (rotorMax : Nat) (k : Slot) : (k.purge rotorMax).state = .active ↔ k.state = .active := by
  unfold Slot.purge
  split
  · next h => simp [Slot.freed, h]
  · rfl

theorem purge_of_active (rotorMax : Nat) {k : Slot} (h : k.state = .active) : k.purge rotorMax = { k with refs := 0 } :=
  if_neg (by simp [h])

/-- Where a slot is ACTIVE, the ACTIVE slot is one that is. -/
theorem activeSlot_active {s : State} (h : ∃ k : Fin 3, s.rcp.slots[k].state = .active) : s.rcp.slots[s.activeSlot].state = .active := by
  unfold State.activeSlot
  split
  · assumption
  · split
    · assumption
    · split
      · assumption
      · next h0 h1 h2 =>
        obtain ⟨k, hk⟩ := h
        fin_cases k
        · exact absurd hk h0
        · exact absurd hk h1
        · exact absurd hk h2

/-- PURGE leaves the ACTIVE slot's recipe, where a slot is ACTIVE. -/
theorem restarted_activeParams {s : State} (h : ∃ k : Fin 3, s.rcp.slots[k].state = .active) :
    s.restarted.activeParams = s.activeParams := by
  have hslots : ∀ k : Fin 3, s.restarted.rcp.slots[k] = s.rcp.slots[k].purge s.line.rotorMaxRpm := fun k => Vector.getElem_mapIdx k.isLt
  have hactive : s.restarted.activeSlot = s.activeSlot := by
    unfold State.activeSlot
    have h0 := hslots 0
    have h1 := hslots 1
    have h2 := hslots 2
    simp only [Fin.getElem_fin] at h0 h1 h2
    simp only [Fin.isValue, show s.restarted.rcp.slots[0] = _ from h0, show s.restarted.rcp.slots[1] = _ from h1,
      show s.restarted.rcp.slots[2] = _ from h2, purge_state_active_iff]
    rfl
  calc s.restarted.rcp.slots[s.restarted.activeSlot].recipe.params
    _ = s.restarted.rcp.slots[s.activeSlot].recipe.params := by simp only [hactive]
    _ = s.rcp.slots[s.activeSlot].recipe.params := by rw [hslots, purge_of_active _ (activeSlot_active h)]

/-- Settles O54: RESTART is each block's part, the answers to a census, and the demand of R137. -/
theorem restartPutsEachBlockBack : Obligations.RestartPutsEachBlockBack := by
  intro rest s hslots hw
  obtain ⟨⟨kind, value, rotor, spinUp, stall, he⟩, hfollows, hafresh⟩ := restart_spec (s.popped .supervisor rest)
  refine ⟨(s.popped .supervisor rest).restart, congrArg Host.Outcome.next (takeRequest_of_waits _ hw rfl), ?_⟩
  generalize (s.popped .supervisor rest).restart = t at he hfollows hafresh ⊢
  have havail : t.lsig.estop = s.lsig.estop ∧ t.avail .e = (s.infoRestarted .e).avail := he ▸ ⟨rfl, rfl⟩
  have hidle : t.ecs.need = [] ∧ t.ecs.economy = none := he ▸ ⟨rfl, rfl⟩
  have hparams : t.activeParams = s.activeParams := by
    rw [he]
    exact restarted_activeParams (s := s.popped .supervisor rest) ⟨hslots.1.choose, hslots.1.choose_spec.1⟩
  refine ⟨?_, ?_, ?_, ?_, ?coils, ?_, ?_, ?_, ⟨?lists, ?pulses⟩, ⟨?_, ?slots⟩, ?_, ?_, ?_, ?segments, ?flaps, ?_, ?_, ?_,
    ?_, ?_, ?_, ?_, ?_, ?stopped, ?ready, ?afresh⟩
  case stopped =>
    intro hstop
    have hd : t.demandFor = (.none, 0) := by
      refine demandFor_of_stopped ?_
      rw [havail.1, havail.2]
      by_cases hestop : s.lsig.estop = true
      · exact .inr hestop
      · exact .inl (infoRestarted_of_not_ok (Bool.eq_false_iff.mpr hestop) (hstop.resolve_left hestop))
    exact ⟨hfollows.1.trans (by rw [hd]), hfollows.2.trans (by rw [hd])⟩
  case ready =>
    intro hestop hok
    have hready : t.avail .e = .ready := havail.2.trans (infoRestarted_of_ok hestop hok)
    have hd := demandFor_of_idle hready (havail.1.trans hestop) hidle.1 hidle.2
    rw [hparams] at hd
    unfold State.DemandFollows at hfollows
    rw [hd] at hfollows
    split
    · next h0 => rwa [if_pos h0] at hfollows
    · next h0 => rwa [if_neg h0] at hfollows
  case afresh =>
    intro hrotor
    obtain ⟨-, -, hreads, -, hspin, hstall⟩ := hrotor
    exact hafresh ⟨hreads, hspin, hstall⟩
  all_goals subst he
  case coils => exact fun k => Vector.getElem_mapIdx k.isLt
  case lists => exact reset_lists
  case pulses => exact fun n => Vector.getElem_mapIdx n.isLt
  case slots => exact fun k => (Vector.getElem_mapIdx k.isLt).trans rfl
  case segments => exact restarted_segments (s.popped .supervisor rest)
  case flaps => exact restarted_flaps (s.popped .supervisor rest)
  all_goals rfl

end Sys2Proof.Machine

/-! ## What the part has due (R6, R9, R66, R127, R155, R156, R163 to R167) -/

namespace Sys2Proof.Machine

theorem mem_whenever {b : Bool} {c x : Instr} : c ∈ whenever b x ↔ b = true ∧ c = x := by
  unfold whenever
  split <;> simp_all

theorem mem_allStations (st : Station) : st ∈ allStations := by cases st <;> decide

/-- A receiver has waited too long inside a frame (R163). -/
theorem gapOver_iff {now : W32} {r : Receiver} : r.gapOver now = true ↔ r.phase ≠ .hunt ∧ reached now (r.lastByte + 2001) = true := by
  unfold Receiver.gapOver after
  rw [Bool.and_eq_true, bne_iff_ne]
  rfl

/-- The watched times and pulses that are due are those whose time is reached; a command that waits for no time is none of them. -/
theorem mem_due_iff {c : Instr} {s : State} : c ∈ s.dueTimes ++ s.duePulses ↔ s.TimeReached c := by
  simp only [State.dueTimes, State.duePulses, List.mem_append, List.mem_flatMap, mem_whenever, List.mem_finRange, true_and, gapOver_iff]
  cases c
  case ecsOkWatchExpiry which => cases which <;> simp [State.TimeReached]
  case censusWaitExpiry st => simp [State.TimeReached, mem_allStations]
  case frameGapTimeout l => cases l <;> simp [State.TimeReached, State.link]
  all_goals simp [State.TimeReached]

/-- A link has one request due where a frame waits and its reply has a place: the one at the head, by the row that serves it. -/
theorem mem_dueRequest {c : Instr} {l : Link} {s : State} : c ∈ s.dueRequest l ↔ ∃ (f : Frame) (rest : List Frame),
    (s.link l).rxQueue = f :: rest ∧ (s.link l).txQueue.length < txPlaces l ∧ c = rowOf l f := by
  unfold State.dueRequest State.request
  by_cases hfree : (s.link l).txQueue.length < txPlaces l
  · rw [if_pos hfree]
    cases hq : (s.link l).rxQueue with
    | nil => simp
    | cons f rest => simp [hfree]
  · rw [if_neg hfree]
    simp [hfree]

theorem mem_internal {c : Instr} {s : State} : c ∈ s.internal ↔ s.TimeReached c ∨ ∃ l, c ∈ s.dueRequest l := by
  unfold State.internal
  rw [List.mem_append, List.mem_append, mem_due_iff, or_assoc]
  refine or_congr_right ⟨fun h => h.elim (fun h => ⟨_, h⟩) (fun h => ⟨_, h⟩), fun ⟨l, h⟩ => ?_⟩
  cases l with
  | classifier => exact .inl h
  | supervisor => exact .inr h

theorem step_of_nothing_due {s : State} (hp : s.pending = []) (hnone : s.internal = []) : step s = .next s.tick := by
  unfold step
  rw [hp, hnone]

/-- Settles O2: `step` with no command waiting takes what `State.choose` picks of the due list, or ticks. -/
theorem idleStepTakesADueEventOrTicks : Obligations.IdleStepTakesADueEventOrTicks := by
  intro s hp
  refine ⟨fun hnone => ?_, fun hsome => ?_, fun c => ?_⟩
  · exact (step_of_nothing_due hp hnone).trans rfl
  · obtain ⟨x, xs, hx⟩ := List.exists_cons_of_ne_nil hsome
    refine ⟨(s.choose x xs).1, hx ▸ State.choose_mem s x xs, (s.choose x xs).2.2.draws, ?_⟩
    rw [← (State.choose_spec s x xs).2]
    unfold step
    rw [hp, hx]
  · simp only [mem_internal, mem_dueRequest]

/-! ### What a time that is reached brings about -/

theorem complete_of_rising {g : Segment} (h : g.power = .rising) : g.complete =
    { g with power := .on, completion := none, watches := g.watches.map fun w => { w with breached := true } } := by
  unfold Segment.complete
  rw [h]
  rfl

theorem complete_of_falling {g : Segment} (h : g.power = .falling) : g.complete = { g with power := .off, completion := none } := by
  unfold Segment.complete
  rw [h]
  rfl

theorem complete_of_movingNear {f : Flap} (h : f.position = .movingNear) :
    f.complete = { f with position := .atNear, completion := none } := by
  unfold Flap.complete
  rw [h]
  rfl

theorem complete_of_movingFar {f : Flap} (h : f.position = .movingFar) :
    f.complete = { f with position := .atFar, completion := none } := by
  unfold Flap.complete
  rw [h]
  rfl

/-- Settles O13: each time's command under the condition it tests. -/
theorem watchedTimesActWhenReached : Obligations.WatchedTimesActWhenReached := by
  intro s
  refine ⟨fun h => ?_, fun k h => ⟨fun hp => ?_, fun hp => ?_⟩, fun k h => ⟨fun hp => ?_, fun hp => ?_⟩, fun h => ?_, fun st hi h => ?_,
    fun st hi => ?_, fun level hl => ?_, fun h hin he => ?_, fun h => ?_⟩
  · exact congrArg Host.Outcome.next (if_pos h)
  · rw [← complete_of_rising hp]
    exact congrArg Host.Outcome.next (if_pos h)
  · rw [← complete_of_falling hp]
    exact congrArg Host.Outcome.next (if_pos h)
  · rw [← complete_of_movingNear hp]
    exact congrArg Host.Outcome.next (if_pos h)
  · rw [← complete_of_movingFar hp]
    exact congrArg Host.Outcome.next (if_pos h)
  · exact congrArg Host.Outcome.next (if_pos h)
  · exact congrArg Host.Outcome.next (if_pos ⟨hi, h⟩)
  · exact congrArg Host.Outcome.next (if_neg fun hc => hi hc.1)
  · exact congrArg Host.Outcome.next (if_neg hl)
  · let u := s.modLsig fun l => { l with estop := false, estopFilter := none }
    have hstop : u.demandFor = (.none, 0) := demandFor_of_stopped (.inl he)
    obtain ⟨hkind, hvalue⟩ := evalDemand_follows u
    rw [evalDemand_demandFor, hstop] at hkind hvalue
    have hexec : exec .estopReleased s = .next u.evalDemand := congrArg Host.Outcome.next (if_pos (by simp [h, hin]))
    exact ⟨_, hexec, evalDemand_lsig u, hkind, hvalue, exec_within hexec⟩
  · exact congrArg Host.Outcome.next (if_pos h)

end Sys2Proof.Machine

/-! ## The invariants at reset (R17, R101, R172) -/

namespace Sys2Proof.Machine

theorem lineDefault_inRange : Line.default.InRange := by
  refine ⟨fun p => ?_, by decide, by decide, by decide, by decide, by decide, by decide⟩
  cases p <;> decide

theorem recipeDefault_inRange : (Recipe.default 4000).params.InRange 4000 := by
  refine ⟨fun p => ?_, by decide⟩
  cases p <;> decide

theorem reset_paramsInRange : State.reset.ParamsInRange := by
  refine ⟨lineDefault_inRange, fun k => ?_⟩
  rw [reset_slots k]
  exact recipeDefault_inRange

theorem routeEntryDefault_passed : RouteEntry.default.Passed := ⟨by decide, by decide⟩

theorem reset_entriesPassed : State.reset.EntriesPassed := by
  refine ⟨fun k row c => ?_, fun r hr => absurd hr List.not_mem_nil⟩
  rw [reset_slots k]
  cases c with
  | col n =>
    have he : (Recipe.default 4000).entry row (.col n) = RouteEntry.default := by simp [Recipe.entry, Recipe.default]
    exact he ▸ routeEntryDefault_passed
  | overlength => exact routeEntryDefault_passed

theorem reset_stopHolds : State.reset.StopHolds := fun h => absurd h Bool.false_ne_true

theorem reset_queuesFit : State.reset.QueuesFit := fun l => by cases l <;> decide

theorem reset_listsFit : State.reset.ListsFit := by
  refine ⟨fun st l hl => ?_, fun n => ?_⟩
  · rw [reset_lists st l hl]
    decide
  · rw [show State.reset.jet.pulses[n] = [] from (blank_atRest Inputs.low 0 []).pulses n]
    simp

/-- With no record and no tracker the table is sound (R61, R39). -/
theorem reset_tableSound : State.reset.TableSound := by
  have hrecords : State.reset.tab.records = [] := rfl
  have hqueue : State.reset.tab.queue = [] := rfl
  have htrackers : State.reset.seg.trackers = [] := rfl
  have hcounter : State.reset.tab.tagCounter = 1 := rfl
  simp [State.TableSound, Table.tags, hrecords, hqueue, htrackers, hcounter]

/-- Slot 0 is ACTIVE and the others are FREE (R101). -/
theorem reset_slots_state (k : Fin 3) : (State.reset.rcp.slots[k].state = .active ↔ k = 0) ∧
    State.reset.rcp.slots[k].state ≠ .armed ∧ State.reset.rcp.slots[k].state ≠ .draining ∧ State.reset.rcp.slots[k].refs = 0 := by
  rw [reset_slots k]
  by_cases hk : k = 0 <;> simp [hk]

theorem reset_slotsSound : State.reset.SlotsSound := by
  have hslots := reset_slots_state
  simp only [forall_and] at hslots
  obtain ⟨hactive, harmed, hdraining, hrefs⟩ := hslots
  exact ⟨⟨0, (hactive 0).mpr rfl, fun j hj => (hactive j).mp hj⟩, fun j _ hj => absurd hj (harmed j), fun j _ hj => absurd hj (hdraining j),
    hrefs, fun k hk => absurd hk (hdraining k), fun k _ _ => hrefs k, fun h => absurd rfl h⟩

/-- No demand, no need, no watch, and the rotor at standstill (R149). -/
theorem reset_rotorSound : State.reset.RotorSound := by
  refine ⟨fun tag => ?_, demandIsSet_of_follows (blank_follows Inputs.low 0 []), rotorReading_reads 3 .none 0 0, fun h => absurd rfl h,
    fun h => absurd rfl h, fun h => absurd rfl h⟩
  have hneed : State.reset.ecs.need = [] := rfl
  have hrecords : State.reset.tab.records = [] := rfl
  simp [hneed, hrecords]

/-- Settles O56: the invariants of the reset state, one by one. -/
theorem invariantsHoldAtReset : Obligations.InvariantsHoldAtReset := by
  obtain ⟨hheat, hmeasures⟩ := blank_accountsSound Inputs.low 0 []
  exact ⟨reset_paramsInRange, reset_entriesPassed, hheat, hmeasures, reset_stopHolds, reset_queuesFit, reset_listsFit, reset_tableSound,
    reset_slotsSound, reset_rotorSound⟩

end Sys2Proof.Machine

/-! ## The need set and the demand (R137 to R141)

What a change of the need set's membership brings with it, and the states between which that is the same. -/

namespace Sys2Proof.Machine

/-! ### What the rotor is judged from -/

/-- Two states that ECS starts an evaluation from alike: the time, the line-wide parameters, and ECS but for the flaps are the same. -/
def State.SameRotor (s t : State) : Prop := t.now = s.now ∧ t.line = s.line ∧ ∃ flaps, t.ecs = { s.ecs with flaps := flaps }

/-- Two states for which R137 asks the same of ECS: ECS itself and what the table of R137 reads are the same. -/
def State.SameDemand (s t : State) : Prop :=
  t.ecs = s.ecs ∧ t.line = s.line ∧ t.activeParams = s.activeParams ∧ t.avail .e = s.avail .e ∧ t.lsig.estop = s.lsig.estop

theorem State.SameRotor.refl (s : State) : s.SameRotor s := ⟨rfl, rfl, s.ecs.flaps, rfl⟩

/-- What leaves POS, the line-wide parameters and ECS leaves what an evaluation starts from. -/
theorem Within.sameRotor {bs : List Block} {s t : State} (h : Within bs s t) (hpos : Block.pos ∉ bs) (hline : Block.line ∉ bs)
    (hecs : Block.ecs ∉ bs) : s.SameRotor t :=
  ⟨congrArg Pos.time (h .pos hpos), h .line hline, s.ecs.flaps, h .ecs hecs⟩

theorem Within.avail {bs : List Block} {s t : State} (h : Within bs s t) (hst : Block.stations ∉ bs) (st : Station) :
    t.avail st = s.avail st := by
  unfold State.avail
  rw [show t.lsig.stations = s.lsig.stations from h .stations hst]

/-- What leaves ECS, the line-wide parameters, the stations and E-stop leaves what R137 asks for, where the ACTIVE parameters stay. -/
theorem Within.sameDemand {bs : List Block} {s t : State} (h : Within bs s t) (hecs : Block.ecs ∉ bs) (hline : Block.line ∉ bs)
    (hst : Block.stations ∉ bs) (hestop : Block.estop ∉ bs) (hp : t.activeParams = s.activeParams) : s.SameDemand t :=
  ⟨h .ecs hecs, h .line hline, hp, h.avail hst .e, (h .estop hestop).1⟩

theorem State.DemandEvaluated.of_sameRotor {s s' t : State} (h : s.SameRotor s') (he : s'.DemandEvaluated t) : s.DemandEvaluated t := by
  obtain ⟨hnow, -, flaps, hecs⟩ := h
  simpa only [State.DemandEvaluated, State.RotorKept, State.RotorEvaluated, hnow, hecs] using he

theorem State.DemandEvaluated.of_sameDemand {s t t' : State} (h : t.SameDemand t') (he : s.DemandEvaluated t) : s.DemandEvaluated t' := by
  obtain ⟨hecs, hline, hparams, havail, hestop⟩ := h
  simpa only [State.DemandEvaluated, State.DemandIsSet, State.RotorKept, State.RotorEvaluated, hecs, hline, hparams, havail, hestop] using he

theorem State.NeedMoves.of_sameRotor {s s' t : State} (h : s.SameRotor s') (hm : s'.NeedMoves t) : s.NeedMoves t := by
  obtain ⟨hadd, hdrop⟩ := hm
  have hs := h
  obtain ⟨hnow, hline, flaps, hecs⟩ := h
  rw [hecs] at hadd hdrop
  rw [hnow, hline] at hdrop
  exact ⟨fun h0 h1 => (hadd h0 h1).imp id (.of_sameRotor hs), fun h0 h1 => (hdrop h0 h1).imp id (.of_sameRotor hs)⟩

theorem State.NeedMoves.of_sameDemand {s t t' : State} (h : t.SameDemand t') (hm : s.NeedMoves t) : s.NeedMoves t' := by
  obtain ⟨hadd, hdrop⟩ := hm
  have hs := h
  obtain ⟨hecs, -⟩ := h
  unfold State.NeedMoves
  rw [hecs]
  exact ⟨fun h0 h1 => (hadd h0 h1).imp id (.of_sameDemand hs), fun h0 h1 => (hdrop h0 h1).imp id (.of_sameDemand hs)⟩

theorem State.NeedFollows.of_sameRotor {s s' t : State} {tag : Nat} (h : s.SameRotor s') (hf : s'.NeedFollows t tag) : s.NeedFollows t tag := by
  obtain ⟨hmem, hmoves, hstays⟩ := hf
  refine ⟨?_, State.NeedMoves.of_sameRotor h hmoves, ?_⟩
  all_goals
    obtain ⟨-, -, flaps, hecs⟩ := h
    rw [hecs] at hmem
    simp only [State.NeedStays, State.RotorKept, hecs] at hstays
  · exact hmem
  · exact hstays

theorem State.NeedFollows.of_sameDemand {s t t' : State} {tag : Nat} (hf : s.NeedFollows t tag) (h : t.SameDemand t') : s.NeedFollows t' tag := by
  obtain ⟨hmem, hmoves, hstays⟩ := hf
  refine ⟨?_, State.NeedMoves.of_sameDemand h hmoves, ?_⟩
  all_goals
    obtain ⟨hecs, -⟩ := h
  · rwa [hecs]
  · simpa only [State.NeedStays, State.RotorKept, hecs] using hstays

/-! ### The evaluation of the demand -/

theorem evalDemand_need (s : State) : s.evalDemand.ecs.need = s.ecs.need := by
  obtain ⟨rotor, spinUp, stall, h⟩ := s.evalDemand_spec
  rw [h]

theorem evalDemand_economy (s : State) : s.evalDemand.ecs.economy = s.ecs.economy := by
  obtain ⟨rotor, spinUp, stall, h⟩ := s.evalDemand_spec
  rw [h]

/-- After `evalRotor` the rotor state is the one of R138, and the watches have followed it (R141). -/
theorem evalRotor_evaluated (s : State) : s.RotorEvaluated s.evalRotor := by
  refine ⟨rotorReading_reads _ _ _ _, fun h => if_neg h, fun h => if_pos h, fun h => if_neg h, fun h => (if_pos h).trans ?_⟩
  cases h : s.ecs.stall <;> rfl

/-- The evaluation of the demand is that of R137, and of R138 where the demand has changed. -/
theorem evalDemand_evaluated (s : State) : s.DemandEvaluated s.evalDemand := by
  refine ⟨demandIsSet_of_follows (evalDemand_follows s), fun hkind hvalue => ?_, fun hmoved => ?_⟩
  · have hf : s.DemandFollows := by
      obtain ⟨rotor, spinUp, stall, h⟩ := s.evalDemand_spec
      rw [h] at hkind hvalue
      exact ⟨hkind.symm, hvalue.symm⟩
    rw [evalDemand_of_follows hf]
    exact ⟨rfl, rfl, rfl⟩
  · have hf : ¬ s.DemandFollows := fun hf => by
      rw [evalDemand_of_follows hf] at hmoved
      exact hmoved.elim (fun h => h rfl) (fun h => h rfl)
    rw [evalDemand_of_moved hf]
    exact evalRotor_evaluated (s.modEcs fun e => { e with demandKind := s.demandFor.1, demandValue := s.demandFor.2 })

/-- A change of the need set and of the timer is none of what an evaluation of the rotor starts from. -/
theorem State.DemandEvaluated.of_modNeed {s t : State} {need : List Nat} {economy : Option W32}
    (h : (s.modEcs fun e => { e with need := need, economy := economy }).DemandEvaluated t) : s.DemandEvaluated t := h

/-! ### A tag joins or leaves the need set -/

theorem mem_addNeed {s : State} {tag x : Nat} : x ∈ (s.addNeed tag).ecs.need ↔ x = tag ∨ x ∈ s.ecs.need := by
  unfold State.addNeed
  split
  · next h => exact ⟨.inr, by rintro (rfl | hx) <;> assumption⟩
  · split
    · next h => simp [evalDemand_need, h]
    · simp [or_comm]

theorem mem_dropNeed {s : State} {tag x : Nat} : x ∈ (s.dropNeed tag).ecs.need ↔ x ∈ s.ecs.need ∧ x ≠ tag := by
  unfold State.dropNeed
  split
  · simp only
    split
    · next h =>
      have hx : x ∈ s.ecs.need.filter (fun t => t != tag) ↔ x ∈ s.ecs.need ∧ x ≠ tag := by simp
      rw [← hx, h, evalDemand_need]
      rw [show (s.modEcs fun e => { e with need := [] }).startEconomy.ecs.need = [] from rfl]
    · simp
  · next h => exact ⟨fun hx => ⟨hx, fun hc => h (hc ▸ hx)⟩, And.left⟩

theorem dropNeed_of_not_mem {s : State} {tag : Nat} (h : tag ∉ s.ecs.need) : s.dropNeed tag = s := if_neg h

/-- What follows from a membership that does not change. -/
theorem State.NeedFollows.refl (s : State) (tag : Nat) : s.NeedFollows s tag :=
  ⟨fun _ _ => Iff.rfl, ⟨fun h0 h1 => absurd h0 h1, fun h0 h1 => absurd h1 h0⟩, fun _ => ⟨rfl, rfl, rfl, rfl, rfl, rfl⟩⟩

/-- A tag that joins the need set stops the economy timer and moves the demand where the set was empty (R137, R140). -/
theorem addNeed_follows (s : State) (tag : Nat) : s.NeedFollows (s.addNeed tag) tag := by
  refine ⟨fun x hx => by simp [mem_addNeed, hx], ?_⟩
  have hne : (s.addNeed tag).ecs.need ≠ [] := List.ne_nil_of_mem (mem_addNeed.mpr (.inl rfl))
  refine ⟨⟨fun h0 _ => ?_, fun _ h1 => absurd h1 hne⟩, fun hsame => ?_⟩
  · have he : s.addNeed tag = (s.modEcs fun e => { e with need := [tag], economy := none }).evalDemand := by
      unfold State.addNeed
      rw [if_neg (by simp [h0]), if_pos h0]
    rw [he]
    exact ⟨evalDemand_economy _, State.DemandEvaluated.of_modNeed (evalDemand_evaluated _)⟩
  · have h0 : s.ecs.need ≠ [] := fun h0 => hne (hsame.mp h0)
    unfold State.addNeed
    split
    · exact ⟨rfl, rfl, rfl, rfl, rfl, rfl⟩
    · exact ⟨rfl, rfl, rfl, rfl, rfl, rfl⟩

/-- A tag that leaves the need set starts the economy timer and moves the demand where it was the last (R137, R140). -/
theorem dropNeed_follows (s : State) (tag : Nat) : s.NeedFollows (s.dropNeed tag) tag := by
  refine ⟨fun x hx => by simp [mem_dropNeed, hx], ?_⟩
  by_cases hmem : tag ∈ s.ecs.need
  · have he : s.dropNeed tag =
        if s.ecs.need.filter (fun t => t != tag) = [] then
          (s.modEcs fun e => { e with need := s.ecs.need.filter fun t => t != tag }).startEconomy.evalDemand
        else s.modEcs fun e => { e with need := s.ecs.need.filter fun t => t != tag } := if_pos hmem
    rw [he]
    split
    · next hrest =>
      have hnil : (s.modEcs fun e => { e with need := s.ecs.need.filter fun t => t != tag }).startEconomy.evalDemand.ecs.need = [] := by
        rw [evalDemand_need]
        exact hrest
      refine ⟨⟨fun _ h1 => absurd hnil h1, fun _ _ => ?_⟩, fun hsame => absurd (hsame.mpr hnil) (List.ne_nil_of_mem hmem)⟩
      exact ⟨evalDemand_economy _, State.DemandEvaluated.of_modNeed (evalDemand_evaluated _)⟩
    · next hrest =>
      exact ⟨⟨fun h0 => absurd h0 (List.ne_nil_of_mem hmem), fun _ h1 => absurd h1 hrest⟩, fun _ => ⟨rfl, rfl, rfl, rfl, rfl, rfl⟩⟩
  · rw [dropNeed_of_not_mem hmem]
    exact (State.NeedFollows.refl s tag).2

/-- The tests of R139 move the membership of one tag alone. -/
theorem refreshNeed_follows (s : State) (tag : Nat) : s.NeedFollows (s.refreshNeed tag) tag := by
  unfold State.refreshNeed
  split
  · split
    · exact addNeed_follows s tag
    · exact dropNeed_follows s tag
  · exact dropNeed_follows s tag

theorem refreshNeed_of_dead {s : State} {tag : Nat} (h : s.find tag = none) : s.refreshNeed tag = s.dropNeed tag := by
  unfold State.refreshNeed
  rw [h]

/-- A tag is in the need set once its live record has been tested just where the record has a need. -/
theorem mem_refreshNeed {s : State} {tag : Nat} {r : Record} (h : s.find tag = some r) :
    tag ∈ (s.refreshNeed tag).ecs.need ↔ r.needsRotor = true := by
  unfold State.refreshNeed
  rw [h]
  simp only
  split
  · next hn => simp [mem_addNeed, hn]
  · next hn => simp [mem_dropNeed, hn]

end Sys2Proof.Machine

/-! ## Live records and their recipe slots (R56, R57, R86, R93)

What a change of one record and a retirement leave in the table, the recipe slots and the need set. -/

namespace Sys2Proof.Machine

/-! ### The ACTIVE slot's parameters -/

/-- The ACTIVE slot's parameters stay where a slot is ACTIVE, the same slots are, and their recipes stay. -/
theorem activeParams_of_active {s t : State} (h : ∃ k : Fin 3, s.rcp.slots[k].state = .active)
    (hstate : ∀ k : Fin 3, t.rcp.slots[k].state = .active ↔ s.rcp.slots[k].state = .active)
    (hrecipe : ∀ k : Fin 3, s.rcp.slots[k].state = .active → t.rcp.slots[k].recipe = s.rcp.slots[k].recipe) :
    t.activeParams = s.activeParams := by
  have hslot : t.activeSlot = s.activeSlot := by
    unfold State.activeSlot
    exact if_congr (hstate 0) rfl (if_congr (hstate 1) rfl (if_congr (hstate 2) rfl rfl))
  unfold State.activeParams
  simp only [hslot]
  rw [hrecipe _ (activeSlot_active h)]

/-- The loss of a record leaves an ACTIVE slot ACTIVE with its recipe, and makes no slot ACTIVE. -/
theorem State.SlotLost.active {s t : State} {k : Fin 3} (h : s.SlotLost t k) (j : Fin 3) :
    (t.rcp.slots[j].state = .active ↔ s.rcp.slots[j].state = .active) ∧
      (s.rcp.slots[j].state = .active → t.rcp.slots[j].recipe = s.rcp.slots[j].recipe) := by
  obtain ⟨-, -, hslots⟩ := h
  rw [hslots j]
  by_cases hj : j = k
  · by_cases hd : s.rcp.slots[j].state = .draining ∧ s.rcp.slots[j].refs ≤ 1
    · have hna : s.rcp.slots[j].state ≠ .active := by rw [hd.1]; decide
      simp only [if_pos hj, if_pos hd]
      exact ⟨⟨fun h => absurd h (by decide), fun h => absurd h hna⟩, fun h => absurd h hna⟩
    · simp only [if_pos hj, if_neg hd, implies_true, and_self]
  · simp only [if_neg hj, implies_true, and_self]

theorem State.SlotLost.activeParams {s t : State} {k : Fin 3} (h : s.SlotLost t k) (hactive : ∃ j : Fin 3, s.rcp.slots[j].state = .active) :
    t.activeParams = s.activeParams :=
  activeParams_of_active hactive (fun j => (h.active j).1) fun j => (h.active j).2

/-- What leaves the three pieces of RCP leaves RCP. -/
theorem Within.rcp {bs : List Block} {s t : State} (h : Within bs s t) (hline : Block.line ∉ bs) (hslots : Block.slots ∉ bs)
    (hpsw : Block.psw ∉ bs) : t.rcp = s.rcp := by
  have hl : t.rcp.line = s.rcp.line := h .line hline
  have hs : t.rcp.slots = s.rcp.slots := h .slots hslots
  have hp : t.rcp.psw = s.rcp.psw := h .psw hpsw
  generalize t.rcp = a at hl hs hp ⊢
  generalize s.rcp = b at hl hs hp ⊢
  cases a
  cases b
  simp_all

theorem State.SlotLost.congr {s t u : State} {k : Fin 3} (h : s.SlotLost t k) (hr : u.rcp = t.rcp) : s.SlotLost u k := by
  unfold State.SlotLost
  rw [State.line, hr]
  exact h

theorem slotLoses_slotLost (k : Fin 3) (s : State) : s.SlotLost (s.slotLoses k) k := by
  refine ⟨rfl, rfl, fun j => ?_⟩
  show (s.rcp.slots.set k _)[j] = _
  simp only [Fin.getElem_fin, Vector.getElem_set, Slot.lose, Slot.freed, Fin.ext_iff, eq_comm (a := k.val)]
  split
  · next h => simp [h]
  · rfl

/-- An opening counts a record on one slot, and leaves the slots' states and recipes. -/
theorem slotGains_slot (k : Fin 3) (s : State) (j : Fin 3) :
    ((s.slotGains k).rcp.slots[j].state = s.rcp.slots[j].state) ∧ (s.slotGains k).rcp.slots[j].recipe = s.rcp.slots[j].recipe := by
  show (s.rcp.slots.set k _)[j].state = _ ∧ (s.rcp.slots.set k _)[j].recipe = _
  simp only [Fin.getElem_fin, Vector.getElem_set]
  split
  · next h => simp [h]
  · exact ⟨rfl, rfl⟩

theorem slotGains_activeParams (k : Fin 3) {s : State} (h : ∃ j : Fin 3, s.rcp.slots[j].state = .active) :
    (s.slotGains k).activeParams = s.activeParams :=
  activeParams_of_active h (fun j => by rw [(slotGains_slot k s j).1]) fun j _ => (slotGains_slot k s j).2

/-! ### Changes of one record -/

theorem find_of_tab {s t : State} (h : t.tab = s.tab) (tag : Nat) : t.find tag = s.find tag := by
  unfold State.find
  rw [h]

/-- A change of one record that keeps its tag is found at its tag, and no other record changes. -/
theorem find_modRecord {tag x : Nat} {f : Record → Record} (hf : ∀ r, (f r).tag = r.tag) (s : State) :
    (s.modRecord tag f).find x = (s.find x).map fun r => if x = tag then f r else r := by
  unfold State.find
  rw [State.modRecord_records]
  induction s.tab.records with
  | nil => rfl
  | cons r rs ih =>
    have ht : (if (r.tag == tag) = true then f r else r).tag = r.tag := by
      split
      · exact hf r
      · rfl
    rw [List.map_cons, List.find?_cons, List.find?_cons, ht, ih]
    by_cases hx : r.tag = x
    · simp [hx, beq_eq_decide]
    · simp [beq_eq_false_iff_ne.mpr hx]

theorem find_modRecord_same {tag : Nat} {f : Record → Record} (hf : ∀ r, (f r).tag = r.tag) {s : State} {r : Record}
    (h : s.find tag = some r) : (s.modRecord tag f).find tag = some (f r) := by
  rw [find_modRecord hf, h]
  simp

theorem tags_modRecord {tag : Nat} {f : Record → Record} (hf : ∀ r, (f r).tag = r.tag) (s : State) :
    (s.modRecord tag f).tab.tags = s.tab.tags := by
  unfold Table.tags
  rw [State.modRecord_records, List.map_map]
  refine List.map_congr_left fun r _ => ?_
  show (if r.tag == tag then f r else r).tag = r.tag
  split
  · exact hf r
  · rfl

theorem mem_tags {t : Table} {tag : Nat} : tag ∈ t.tags ↔ ∃ r ∈ t.records, r.tag = tag := by
  simp [Table.tags]

theorem find_eq_none_iff {s : State} {tag : Nat} : s.find tag = none ↔ tag ∉ s.tab.tags := by
  rw [State.find_none, mem_tags]
  simp

theorem tag_of_find {s : State} {tag : Nat} {r : Record} (h : s.find tag = some r) : r.tag = tag := (State.find_some h).2

/-! ### Retirement -/

/-- The table without the record of a tag (R56). -/
def Table.without (t : Table) (tag : Nat) : Table :=
  { t with records := t.records.filter fun x => x.tag != tag, queue := t.queue.filter fun x => x != tag }

theorem mem_tags_without {t : Table} {tag x : Nat} : x ∈ (t.without tag).tags ↔ x ∈ t.tags ∧ x ≠ tag := by
  simp only [mem_tags, Table.without, List.mem_filter, bne_iff_ne]
  constructor
  · rintro ⟨r, ⟨hr, hne⟩, rfl⟩
    exact ⟨⟨r, hr, rfl⟩, hne⟩
  · rintro ⟨⟨r, hr, rfl⟩, hne⟩
    exact ⟨r, ⟨hr, hne⟩, rfl⟩

theorem find_without {s t : State} {tag : Nat} (h : t.tab = s.tab.without tag) {x : Nat} (hx : x ≠ tag) : t.find x = s.find x := by
  unfold State.find
  rw [h]
  show (s.tab.records.filter fun r => r.tag != tag).find? _ = _
  rw [List.find?_filter]
  refine List.find?_congr fun r _ => ?_
  by_cases hr : r.tag = x
  · simp [hr, hx]
  · simp [hr]

theorem find_without_same {s t : State} {tag : Nat} (h : t.tab = s.tab.without tag) : t.find tag = none := by
  rw [find_eq_none_iff, h, mem_tags_without]
  simp

theorem retire_tab (r : Record) (s : State) : (s.retire r).tab = s.tab.without r.tag := refreshNeed_within _ r.tag .tab (by decide)

theorem retire_slotLost (r : Record) (s : State) : s.SlotLost (s.retire r) r.slot := by
  have hlost : s.SlotLost ((s.modTab fun t => t.without r.tag).slotLoses r.slot) r.slot :=
    slotLoses_slotLost r.slot (s.modTab fun t => t.without r.tag)
  exact hlost.congr ((refreshNeed_within _ r.tag).rcp (by decide) (by decide) (by decide))

/-- A retirement lets go of the tag's need alone (R56, R139). -/
theorem retire_dropsNeed (r : Record) (s : State) :
    s.retire r = ((s.modTab fun t => t.without r.tag).slotLoses r.slot).dropNeed r.tag :=
  refreshNeed_of_dead (find_without_same (s := s) rfl)

theorem mem_need_retire {r : Record} {s : State} {x : Nat} : x ∈ (s.retire r).ecs.need ↔ x ∈ s.ecs.need ∧ x ≠ r.tag := by
  rw [retire_dropsNeed, mem_dropNeed]
  exact Iff.rfl

theorem retire_follows (r : Record) (s : State) : s.NeedFollows (s.retire r) r.tag := by
  rw [retire_dropsNeed]
  exact .of_sameRotor ⟨rfl, rfl, s.ecs.flaps, rfl⟩ (dropNeed_follows _ _)

theorem retireTag_of_find {tag : Nat} {r : Record} {s : State} (h : s.find tag = some r) : s.retireTag tag = s.retire r := by
  unfold State.retireTag
  rw [h]

end Sys2Proof.Machine

/-! ## What a scan reads of the coils (R20, R22) -/

namespace Sys2Proof.Machine

/-- A window that wraps where its low limit is above its high one (R22). -/
theorem inWindow_iff {lo hi phase : Nat} :
    inWindow lo hi phase = true ↔ (lo ≤ hi ∧ lo ≤ phase ∧ phase ≤ hi) ∨ (hi < lo ∧ (lo ≤ phase ∨ phase ≤ hi)) := by
  unfold inWindow
  split
  · next h => simp [h, Nat.not_lt.mpr h]
  · next h => simp [h, Nat.lt_of_not_le h]

/-- SCAN's part of a scan: the coils are judged, and COIL latches where one becomes FAULTED. -/
def State.judged (samples : Vector Sample 32) (s : State) : State :=
  let t := s.modScan fun b => { coils := b.judge s.activeParams samples, settling := min 64 (b.settling + 1) }
  if s.scan.faults s.activeParams samples then t.latch .coil else t

theorem scanBar_eq (samples : Vector Sample 32) (s : State) :
    s.scanBar samples = (s.judged samples).segment s.activeParams (s.scan.readings s.activeParams samples) := rfl

theorem judged_within (samples : Vector Sample 32) (s : State) : Within [.scan, .alerts] s (s.judged samples) := by
  unfold State.judged
  exact Within.ite ((latch_within _ .coil).after (by decide) ((modScan_within s _).mono (by decide))) ((modScan_within s _).mono (by decide))

theorem readings_get (p : RecipeParams) (samples : Vector Sample 32) (b : Scan) (k : Fin 32) :
    (b.readings p samples)[k.val]? = some (Coil.read p b.coils[k] (b.judge p samples)[k] samples[k]) := by
  have hk : k.val < (b.readings p samples).length := by simp [Scan.readings]
  rw [List.getElem?_eq_getElem hk]
  simp [Scan.readings]

/-- A reading of a coil: the activity after the scan, the excess against the baseline before it (R20), the phase and its class. -/
theorem read_spec (p : RecipeParams) (before later : Coil) (x : Sample) :
    (Coil.read p before later x).active = later.active ∧ (Coil.read p before later x).phase = x.phase.toNat ∧
      (Coil.read p before later x).metal = phaseClass p x.phase.toNat ∧
      (Coil.read p before later x).excess = if later.faulted then 0 else x.amp.toNat - before.k / 256 := ⟨rfl, rfl, rfl, rfl⟩

/-- Settles O9: the first part by the windows in the order of R22, the second by the readings of the scan's coils. -/
theorem phaseClassIsTheFirstWindowsClass : Obligations.PhaseClassIsTheFirstWindowsClass := by
  refine ⟨fun p phase _ => ⟨fun hf => ?_, fun hf hs => ?_, fun hf hs hn => ?_, fun hf hs hn => ?_⟩, fun samples s => ?_⟩
  · exact if_pos (inWindow_iff.mpr hf)
  · exact (if_neg fun h => hf (inWindow_iff.mp h)).trans (if_pos (inWindow_iff.mpr hs))
  · exact (if_neg fun h => hf (inWindow_iff.mp h)).trans ((if_neg fun h => hs (inWindow_iff.mp h)).trans (if_pos (inWindow_iff.mpr hn)))
  · exact (if_neg fun h => hf (inWindow_iff.mp h)).trans ((if_neg fun h => hs (inWindow_iff.mp h)).trans
      (if_neg fun h => hn (inWindow_iff.mp h)))
  · have hscan : (s.bringAbout samples .scan).scan.coils = s.scan.judge s.activeParams samples := by
      rw [bringAbout_at_scan, scanBar_scan]
    refine ⟨s.scan.readings s.activeParams samples, s.judged samples, judged_within samples s, scanBar_eq samples s,
      segment_within _ _ _ .scan (by decide), by simp [Scan.readings], fun k => ⟨_, readings_get _ samples s.scan k, ?_⟩⟩
    simp only [hscan]
    exact read_spec _ _ _ _

end Sys2Proof.Machine

/-! ## The runs of a scan (R26, R27, R28, R37, R42, R43, R44) -/

namespace Sys2Proof.Machine

/-! ### The runs -/

/-- A run among the activities of the coils: a greatest stretch of ACTIVE coils (R27). -/
def IsRun (act : Nat → Bool) (run : Span) : Prop :=
  run.first ≤ run.last ∧ (∀ i, run.first ≤ i → i ≤ run.last → act i = true) ∧ (∀ i, i + 1 = run.first → act i = false) ∧
    act (run.last + 1) = false

/-- What holds before coil `i` while the runs are read off: a run goes on from coil `a`, or none does. -/
def RunGoesOn (act : Nat → Bool) (i : Nat) : Option Nat → Prop
  | none => ∀ k, k + 1 = i → act k = false
  | some a => a < i ∧ (∀ k, a ≤ k → k < i → act k = true) ∧ ∀ k, k + 1 = a → act k = false

section Runs
variable {act : Nat → Bool} {i a : Nat}

theorem RunGoesOn.ended (h : act i = false) : RunGoesOn act (i + 1) none := by
  intro k hk
  obtain rfl : k = i := by omega
  exact h

theorem RunGoesOn.longer {start : Option Nat} (hs : RunGoesOn act i start) (h : act i = true) :
    RunGoesOn act (i + 1) (some (start.getD i)) := by
  cases start with
  | none =>
    refine ⟨Nat.lt_succ_self i, fun k hk hk' => ?_, hs⟩
    obtain rfl : k = i := Nat.le_antisymm (Nat.le_of_lt_succ hk') hk
    exact h
  | some a =>
    obtain ⟨hlt, hact, hbefore⟩ := hs
    refine ⟨Nat.lt_succ_of_lt hlt, fun k hk hk' => ?_, hbefore⟩
    rcases Nat.lt_succ_iff_lt_or_eq.mp hk' with hk' | rfl
    · exact hact k hk hk'
    · exact h

/-- A run that ends at an INACTIVE coil is the one run that begins from its start to that coil. -/
theorem isRun_from_start (hs : RunGoesOn act i (some a)) (hi : act i = false) (run : Span) :
    IsRun act run ∧ a ≤ run.first ↔ run = { first := a, last := i - 1 } ∨ IsRun act run ∧ i + 1 ≤ run.first := by
  obtain ⟨hlt, hact, hbefore⟩ := hs
  constructor
  · rintro ⟨hrun, ha⟩
    by_cases hf : i + 1 ≤ run.first
    · exact .inr ⟨hrun, hf⟩
    · obtain ⟨hle, hon, hpre, hpost⟩ := hrun
      have hne : run.first ≠ i := fun hc => by
        have := hon i (by omega) (by omega)
        simp [hi] at this
      have hfirst : run.first = a := by
        by_contra hc
        have hk := hpre (run.first - 1) (by omega)
        rw [hact (run.first - 1) (by omega) (by omega)] at hk
        exact absurd hk (by simp)
      have hlast : run.last + 1 = i := by
        rcases Nat.lt_trichotomy (run.last + 1) i with h | h | h
        · rw [hact _ (by omega) h] at hpost
          exact absurd hpost (by simp)
        · exact h
        · rw [hon i (by omega) (by omega)] at hi
          exact absurd hi (by simp)
      exact .inl (by rw [← hfirst, ← hlast]; rfl)
  · rintro (rfl | ⟨hrun, hf⟩)
    · refine ⟨⟨by show a ≤ i - 1; omega, fun k hk hk' => hact k hk ?_, hbefore, ?_⟩, Nat.le_refl a⟩
      · have : k ≤ i - 1 := hk'
        omega
      · show act (i - 1 + 1) = false
        rwa [Nat.sub_add_cancel (by omega)]
    · exact ⟨hrun, by omega⟩

/-- What `runsFrom` reads off are the runs that begin no earlier than the one going on. -/
theorem mem_runsFrom : ∀ (l : List Bool) (i : Nat) (start : Option Nat), (∀ j, l.getD j false = act (i + j)) → RunGoesOn act i start →
    ∀ run, run ∈ runsFrom i start l ↔ IsRun act run ∧ start.getD i ≤ run.first
  | [], i, start, hl, hs, run => by
    have hoff : ¬ (IsRun act run ∧ i ≤ run.first) := by
      rintro ⟨⟨hle, hon, -, -⟩, hi⟩
      have h1 := hon run.first (Nat.le_refl _) hle
      have h2 := hl (run.first - i)
      rw [Nat.add_sub_cancel' hi, h1] at h2
      exact absurd h2 (by simp)
    cases start with
    | none => simpa [runsFrom] using hoff
    | some a =>
      have hi : act i = false := (hl 0).symm
      refine Iff.trans ?_ (isRun_from_start hs hi run).symm
      have hno : ¬ (IsRun act run ∧ i + 1 ≤ run.first) := fun h => hoff ⟨h.1, by omega⟩
      exact List.mem_singleton.trans (or_iff_left hno).symm
  | true :: rest, i, start, hl, hs, run => by
    have hi : act i = true := (hl 0).symm
    exact mem_runsFrom rest (i + 1) (some (start.getD i)) (fun j => by rw [Nat.add_right_comm]; exact hl (j + 1)) (hs.longer hi) run
  | false :: rest, i, start, hl, hs, run => by
    have hi : act i = false := (hl 0).symm
    have ih := mem_runsFrom rest (i + 1) none (fun j => by rw [Nat.add_right_comm]; exact hl (j + 1)) (.ended hi) run
    cases start with
    | none =>
      refine ih.trans ⟨fun h => ⟨h.1, Nat.le_of_succ_le h.2⟩, fun ⟨hrun, hf⟩ => ⟨hrun, Nat.lt_of_le_of_ne hf fun hc => ?_⟩⟩
      have := hrun.2.1 run.first (Nat.le_refl _) hrun.1
      rw [← show i = run.first from hc, hi] at this
      exact absurd this (by simp)
    | some a =>
      refine Iff.trans ?_ (isRun_from_start hs hi run).symm
      rw [← show run ∈ runsFrom (i + 1) none rest ↔ IsRun act run ∧ i + 1 ≤ run.first from ih]
      exact List.mem_cons

/-- Between two runs there is an INACTIVE coil, and they are read off in order of coil number. -/
theorem runsFrom_apart : ∀ (l : List Bool) (i : Nat) (start : Option Nat), (∀ j, l.getD j false = act (i + j)) → RunGoesOn act i start →
    (runsFrom i start l).Pairwise fun a b => a.last + 1 < b.first
  | [], i, none, _, _ => .nil
  | [], i, some a, _, _ => List.pairwise_singleton _ _
  | true :: rest, i, start, hl, hs =>
    runsFrom_apart rest (i + 1) (some (start.getD i)) (fun j => by rw [Nat.add_right_comm]; exact hl (j + 1)) (hs.longer (hl 0).symm)
  | false :: rest, i, start, hl, hs => by
    have hrest : ∀ j, rest.getD j false = act (i + 1 + j) := fun j => by rw [Nat.add_right_comm]; exact hl (j + 1)
    have hends : RunGoesOn act (i + 1) none := .ended (hl 0).symm
    have ih := runsFrom_apart rest (i + 1) none hrest hends
    cases start with
    | none => exact ih
    | some a =>
      refine List.pairwise_cons.mpr ⟨fun run hrun => ?_, ih⟩
      have hf : i + 1 ≤ run.first := ((mem_runsFrom rest (i + 1) none hrest hends run).mp hrun).2
      have hlt := hs.1
      show i - 1 + 1 < run.first
      omega

end Runs

/-! ### The samples of a run -/

/-- A class is among the classes seen. -/
def Classes.has (c : Classes) : Metal → Bool
  | .ferrous => c.ferrous
  | .nonferrous => c.nonferrous
  | .stainless => c.stainless

theorem Classes.has_add (c : Classes) (m n : Metal) : (c.add m).has n = true ↔ c.has n = true ∨ m = n := by
  cases m <;> cases n <;> simp [Classes.add, Classes.has]

/-- A reading brings a class where its excess is T_MIX or more (R26). -/
def Reading.brings (tMix : Nat) (r : Reading) (m : Metal) : Prop := r.metal = some m ∧ tMix ≤ r.excess

section Samples
variable (tMix : Nat)

theorem has_sample (x : Tracker) (r : Reading) (m : Metal) :
    (x.sample tMix r).classes.has m = true ↔ x.classes.has m = true ∨ r.brings tMix m := by
  show (match r.metal with
    | some m => if tMix ≤ r.excess then x.classes.add m else x.classes
    | none => x.classes).has m = true ↔ _
  unfold Reading.brings
  cases r.metal with
  | none => simp
  | some n =>
    by_cases h : tMix ≤ r.excess
    · simp [h, Classes.has_add]
    · simp [h]

theorem has_samples (m : Metal) : ∀ (l : List Reading) (x : Tracker),
    (l.foldl (Tracker.sample tMix) x).classes.has m = true ↔ x.classes.has m = true ∨ ∃ r ∈ l, r.brings tMix m
  | [], x => by simp
  | r :: l, x => by
    rw [List.foldl_cons, has_samples m l, has_sample]
    simp [or_assoc]

theorem peak_sample (x : Tracker) (r : Reading) :
    (x.sample tMix r).peak = if x.peak.excess < r.excess then { excess := r.excess, phase := r.phase } else x.peak := rfl

/-- Readings that do not exceed the peak leave it. -/
theorem peak_samples_of_le : ∀ (l : List Reading) (x : Tracker), (∀ r ∈ l, r.excess ≤ x.peak.excess) →
    (l.foldl (Tracker.sample tMix) x).peak = x.peak
  | [], _, _ => rfl
  | r :: l, x, h => by
    have hp : (x.sample tMix r).peak = x.peak := (peak_sample tMix x r).trans (if_neg (Nat.not_lt.mpr (h r List.mem_cons_self)))
    rw [List.foldl_cons, peak_samples_of_le l _ fun q hq => by rw [hp]; exact h q (List.mem_cons_of_mem r hq), hp]

/-- The peak stays below what every reading stays below. -/
theorem peak_samples_lt {n : Nat} : ∀ (l : List Reading) (x : Tracker), x.peak.excess < n → (∀ r ∈ l, r.excess < n) →
    (l.foldl (Tracker.sample tMix) x).peak.excess < n
  | [], _, hx, _ => hx
  | r :: l, x, hx, h => by
    refine peak_samples_lt l _ ?_ fun q hq => h q (List.mem_cons_of_mem r hq)
    rw [peak_sample]
    split
    · exact h r List.mem_cons_self
    · exact hx

/-- The first of the largest readings above the peak becomes the peak. -/
theorem peak_samples_of_max {before behind : List Reading} {r : Reading} {x : Tracker} (hx : x.peak.excess < r.excess)
    (hbefore : ∀ q ∈ before, q.excess < r.excess) (hbehind : ∀ q ∈ behind, q.excess ≤ r.excess) :
    ((before ++ r :: behind).foldl (Tracker.sample tMix) x).peak = { excess := r.excess, phase := r.phase } := by
  have hp : ((before.foldl (Tracker.sample tMix) x).sample tMix r).peak = { excess := r.excess, phase := r.phase } :=
    (peak_sample tMix _ r).trans (if_pos (peak_samples_lt tMix before x hx hbefore))
  rw [List.foldl_append, List.foldl_cons, peak_samples_of_le tMix behind _ fun q hq => by rw [hp]; exact hbehind q hq, hp]

/-- Sampling moves the peak and the classes seen alone. -/
theorem samples_rest : ∀ (l : List Reading) (x : Tracker), l.foldl (Tracker.sample tMix) x =
    { x with peak := (l.foldl (Tracker.sample tMix) x).peak, classes := (l.foldl (Tracker.sample tMix) x).classes }
  | [], _ => rfl
  | r :: l, x => samples_rest l (x.sample tMix r)

end Samples

/-- The readings of a run's coils. -/
def runReadings (readings : List Reading) (run : Span) : List Reading := (readings.take (run.last + 1)).drop run.first

theorem getElem?_runReadings (readings : List Reading) (run : Span) (j : Nat) : (runReadings readings run)[j]? =
    if run.first + j ≤ run.last then readings[run.first + j]? else none := by
  unfold runReadings
  rw [List.getElem?_drop, List.getElem?_take]
  simp only [Nat.lt_succ_iff]

theorem mem_runReadings {readings : List Reading} {run : Span} {r : Reading} :
    r ∈ runReadings readings run ↔ ∃ i, run.first ≤ i ∧ i ≤ run.last ∧ readings[i]? = some r := by
  rw [List.mem_iff_getElem?]
  constructor
  · rintro ⟨j, hj⟩
    rw [getElem?_runReadings] at hj
    split at hj
    · next h => exact ⟨run.first + j, Nat.le_add_right _ _, h, hj⟩
    · exact absurd hj (by simp)
  · rintro ⟨i, hlo, hhi, hr⟩
    refine ⟨i - run.first, ?_⟩
    rw [getElem?_runReadings, Nat.add_sub_cancel' hlo, if_pos hhi, hr]

/-- The readings of a run, cut at the reading of one of its coils. -/
theorem runReadings_split {readings : List Reading} {run : Span} {r : Reading} {i : Nat} (hlo : run.first ≤ i) (hhi : i ≤ run.last)
    (hr : readings[i]? = some r) : ∃ before behind, runReadings readings run = before ++ r :: behind ∧
      ∀ q ∈ before, ∃ j, run.first ≤ j ∧ j < i ∧ readings[j]? = some q := by
  have hget : (runReadings readings run)[i - run.first]? = some r := by
    rw [getElem?_runReadings, Nat.add_sub_cancel' hlo, if_pos hhi, hr]
  obtain ⟨hlt, hget⟩ := List.getElem?_eq_some_iff.mp hget
  refine ⟨(runReadings readings run).take (i - run.first), (runReadings readings run).drop (i - run.first + 1), ?_, fun q hq => ?_⟩
  · rw [← hget, List.getElem_cons_drop, List.take_append_drop]
  · obtain ⟨j, hj⟩ := List.mem_iff_getElem?.mp hq
    rw [List.getElem?_take] at hj
    split at hj
    · next hji =>
      rw [getElem?_runReadings] at hj
      split at hj
      · exact ⟨run.first + j, by omega, by omega, hj⟩
      · exact absurd hj (by simp)
    · exact absurd hj (by simp)

theorem take_eq (tMix : Nat) (readings : List Reading) (run : Span) (x : Tracker) : x.take tMix readings run =
    { (runReadings readings run).foldl (Tracker.sample tMix) x with span := x.span.union run } := rfl

/-- A run taken moves the span, the peak and the classes seen alone. -/
theorem take_rest (tMix : Nat) (readings : List Reading) (run : Span) (x : Tracker) : x.take tMix readings run =
    { x with
      span := (x.take tMix readings run).span, peak := (x.take tMix readings run).peak
      classes := (x.take tMix readings run).classes } := by
  rw [take_eq, samples_rest]

theorem has_take (tMix : Nat) (readings : List Reading) (run : Span) (x : Tracker) (m : Metal) :
    (x.take tMix readings run).classes.has m = true ↔ x.classes.has m = true ∨
      ∃ r i, (run.first ≤ i ∧ i ≤ run.last ∧ readings[i]? = some r) ∧ r.metal = some m ∧ tMix ≤ r.excess := by
  rw [take_eq]
  refine (has_samples tMix m _ x).trans (or_congr_right ⟨?_, ?_⟩)
  · rintro ⟨r, hr, hb⟩
    obtain ⟨i, hi⟩ := mem_runReadings.mp hr
    exact ⟨r, i, hi, hb⟩
  · rintro ⟨r, i, hi, hb⟩
    exact ⟨r, mem_runReadings.mpr ⟨i, hi⟩, hb⟩

/-! ### The tag of a new record (R44) -/

/-- The tag `j` values on from a tag, 65535 counting on to 1. -/
def tagAfter (tag j : Nat) : Nat := (tag - 1 + j) % 65535 + 1

theorem tagAfter_zero {tag : Nat} (hlo : 1 ≤ tag) (hhi : tag ≤ 65535) : tagAfter tag 0 = tag := by
  unfold tagAfter
  omega

theorem tagAfter_nextTag {tag : Nat} (hlo : 1 ≤ tag) (hhi : tag ≤ 65535) (j : Nat) : tagAfter (nextTag tag) j = tagAfter tag (j + 1) := by
  unfold tagAfter nextTag
  split <;> omega

theorem nextTag_range {tag : Nat} (hlo : 1 ≤ tag) : 1 ≤ nextTag tag ∧ nextTag tag ≤ 65535 := by
  unfold nextTag
  split <;> omega

/-- The search finds the first free tag, where there is one among the values it tries. -/
theorem freeTag_spec (live : List Nat) : ∀ (fuel tag : Nat), 1 ≤ tag → tag ≤ 65535 → (∃ d, d < fuel ∧ tagAfter tag d ∉ live) →
    ∃ d, d < fuel ∧ freeTag live fuel tag = tagAfter tag d ∧ tagAfter tag d ∉ live ∧ ∀ j, j < d → tagAfter tag j ∈ live
  | 0, _, _, _, ⟨_, hd, _⟩ => absurd hd (Nat.not_lt_zero _)
  | fuel + 1, tag, hlo, hhi, ⟨d, hd, hfree⟩ => by
    unfold freeTag
    by_cases hmem : tag ∈ live
    · rw [if_pos hmem]
      have hd0 : d ≠ 0 := by
        rintro rfl
        rw [tagAfter_zero hlo hhi] at hfree
        exact hfree hmem
      have hnext : ∃ e, e < fuel ∧ tagAfter (nextTag tag) e ∉ live := by
        refine ⟨d - 1, by omega, ?_⟩
        rwa [tagAfter_nextTag hlo hhi, Nat.sub_add_cancel (by omega)]
      obtain ⟨hlo', hhi'⟩ := nextTag_range hlo
      obtain ⟨e, he, heq, hfree', hbefore⟩ := freeTag_spec live fuel (nextTag tag) hlo' hhi' hnext
      rw [tagAfter_nextTag hlo hhi] at heq hfree'
      refine ⟨e + 1, by omega, heq, hfree', fun j hj => ?_⟩
      cases j with
      | zero => rwa [tagAfter_zero hlo hhi]
      | succ j =>
        rw [← tagAfter_nextTag hlo hhi]
        exact hbefore j (by omega)
    · rw [if_neg hmem]
      have h0 := tagAfter_zero hlo hhi
      exact ⟨0, Nat.succ_pos _, h0.symm, by rwa [h0], fun j hj => absurd hj (Nat.not_lt_zero j)⟩

/-- One more value than there are live records is enough to try. -/
theorem exists_free_tag {live : List Nat} (h : live.length < 65535) (tag : Nat) : ∃ d, d < live.length + 1 ∧ tagAfter tag d ∉ live := by
  by_contra hc
  simp only [not_exists, not_and, not_not] at hc
  have hnodup : ((List.range (live.length + 1)).map (tagAfter tag)).Nodup := by
    refine List.Nodup.map_on (fun i hi j hj hij => ?_) List.nodup_range
    have hi := List.mem_range.mp hi
    have hj := List.mem_range.mp hj
    unfold tagAfter at hij
    omega
  have hsub : (List.range (live.length + 1)).map (tagAfter tag) ⊆ live := by
    intro t ht
    obtain ⟨d, hd, rfl⟩ := List.mem_map.mp ht
    exact hc d (List.mem_range.mp hd)
  have hlen := (List.subperm_of_subset hnodup hsub).length_le
  simp only [List.length_map, List.length_range] at hlen
  omega

/-! ### The opening of a record (R42, R43) -/

/-- A record is opened for a tracker, where a table slot is free. -/
def State.opened (t : Tracker) (s : State) : State :=
  (s.modTab fun b => { b with
    records := b.records ++ [Record.fresh s.tab.newTag s.activeSlot t], tagCounter := nextTag s.tab.newTag }).slotGains s.activeSlot

theorem opened_within (t : Tracker) (s : State) : Within [.tab, .slots] s (s.opened t) :=
  Within.seq (modTab_within s _) (slotGains_within _ _) (by decide) (by decide)

theorem opened_activeParams (t : Tracker) {s : State} (h : ∃ k : Fin 3, s.rcp.slots[k].state = .active) :
    (s.opened t).activeParams = s.activeParams :=
  slotGains_activeParams s.activeSlot (s := s.modTab _) h

/-- What is opened is a record of the tracker in the ACTIVE slot, under the first free tag from the tag counter on. -/
theorem opened_opens {s : State} (t : Tracker) (hactive : ∃ k : Fin 3, s.rcp.slots[k].state = .active) (hfull : s.tab.records.length ≤ 256)
    (hlo : 1 ≤ s.tab.tagCounter) (hhi : s.tab.tagCounter ≤ 65535) : s.Opens (s.opened t) t s.tab.newTag := by
  have hlen : s.tab.tags.length = s.tab.records.length := List.length_map _
  have hexists := exists_free_tag (live := s.tab.tags) (by omega) s.tab.tagCounter
  rw [hlen] at hexists
  obtain ⟨d, hd, heq, hfree, hbefore⟩ := freeTag_spec s.tab.tags _ s.tab.tagCounter hlo hhi hexists
  have htag : s.tab.newTag = tagAfter s.tab.tagCounter d := heq
  have hnext : nextTag s.tab.newTag = if s.tab.newTag = 65535 then 1 else s.tab.newTag + 1 := by
    have hle : s.tab.newTag ≤ 65535 := by
      rw [htag]
      unfold tagAfter
      omega
    unfold nextTag
    exact if_congr (by omega) rfl rfl
  refine ⟨⟨d, by omega, htag, hbefore⟩, by rwa [htag], s.activeSlot, activeSlot_active hactive, ?_, rfl⟩
  rw [← hnext]
  rfl

theorem openRecord_of_room {s : State} (t : Tracker) (h : s.tab.records.length < 256) :
    s.openRecord t = (some s.tab.newTag, s.opened t) := by
  have he : s.evictIfFull = s := if_pos h
  unfold State.openRecord
  simp only [he]
  exact if_pos h

theorem evictIfFull_of_head {s : State} {head : Nat} {later : List Nat} {r : Record} (hfull : s.tab.records.length = 256)
    (hq : s.tab.queue = head :: later) (hr : s.find head = some r) : s.evictIfFull = s.retire r := by
  unfold State.evictIfFull
  rw [if_neg (by omega), hq]
  exact retireTag_of_find hr

/-- A retirement frees a table slot. -/
theorem length_records_retire {s : State} {tag : Nat} {r : Record} (hr : s.find tag = some r) :
    (s.retire r).tab.records.length < s.tab.records.length := by
  rw [retire_tab]
  exact List.length_filter_lt_length_iff_exists.mpr ⟨r, (State.find_some hr).1, by simp⟩

/-- The eviction of the settled queue's head makes room for the record (R42, R57). -/
theorem openRecord_of_head {s : State} (t : Tracker) {head : Nat} {later : List Nat} {r : Record} (hfull : s.tab.records.length = 256)
    (hq : s.tab.queue = head :: later) (hr : s.find head = some r) :
    s.openRecord t = (some (s.retire r).tab.newTag, (s.retire r).opened t) := by
  have he := evictIfFull_of_head hfull hq hr
  have hroom : (s.retire r).tab.records.length < 256 := hfull ▸ length_records_retire hr
  unfold State.openRecord
  simp only [he]
  exact if_pos hroom

theorem openRecord_of_full {s : State} (t : Tracker) (hfull : s.tab.records.length = 256) (hq : s.tab.queue = []) :
    s.openRecord t = (none, s) := by
  have he : s.evictIfFull = s := by
    unfold State.evictIfFull
    rw [if_neg (by omega), hq]
  unfold State.openRecord
  simp only [he]
  exact if_neg (by omega)

/-- A head of the queue that is not live makes no room. -/
theorem openRecord_of_dead {s : State} (t : Tracker) {head : Nat} {later : List Nat} (hfull : s.tab.records.length = 256)
    (hq : s.tab.queue = head :: later) (hr : s.find head = none) : s.openRecord t = (none, s) := by
  have hretire : s.retireTag head = s := by
    unfold State.retireTag
    rw [hr]
  have he : s.evictIfFull = s := by
    unfold State.evictIfFull
    rw [if_neg (by omega), hq]
    exact hretire
  unfold State.openRecord
  simp only [he]
  exact if_neg (by omega)

/-! ### A run opens a tracker, or is taken (R26, R27, R28, R37) -/

/-- A tracker as it opens for a run, before FTAB gives it a record (R28, R37). -/
def openedFor (tMix : Nat) (readings : List Reading) (notes : List Span) (run : Span) (here : W32) : Tracker :=
  Tracker.take tMix readings run
    { kind := .shadow true, span := run, f := here, lastSeen := here, gap := 0, peak := { excess := 0, phase := 0 }
      classes := { ferrous := false, nonferrous := false, stainless := false }, continued := notes.any fun n => n.near run }

section TakeRun
variable (tMix : Nat) (readings : List Reading) (notes : List Span) (run : Span)

/-- The tracker that opens is bound to the record that FTAB opens for it (R28). -/
theorem openTracker_of_some {s t : State} {tag : Nat} (h : s.openRecord (openedFor tMix readings notes run s.here) = (some tag, t)) :
    s.openTracker tMix readings notes run =
      ({ tracker := { openedFor tMix readings notes run s.here with kind := .bound tag }, took := true }, t) := by
  unfold openedFor at h ⊢
  unfold State.openTracker
  simp only [h]

/-- With no record it is a shadow that counts, and TABLE_FULL latches (R42). -/
theorem openTracker_of_none {s t : State} (h : s.openRecord (openedFor tMix readings notes run s.here) = (none, t)) :
    s.openTracker tMix readings notes run =
      ({ tracker := openedFor tMix readings notes run s.here, took := true }, t.latch .tableFull) := by
  unfold openedFor at h ⊢
  unfold State.openTracker
  simp only [h]

theorem near_iff {span : Span} : span.near run = true ↔ run.first ≤ span.last + 1 ∧ span.first ≤ run.last + 1 := decide_eq_true_iff

/-- A run that no tracker meets opens one. -/
theorem takeRun_of_apart {open' : List Live} {s : State} (h : ∀ y ∈ open', ¬ y.tracker.span.near run = true) :
    State.takeRun tMix readings notes run (open', s) =
      (open' ++ [(s.openTracker tMix readings notes run).1], (s.openTracker tMix readings notes run).2) := by
  have hnear : (open'.filter fun y => y.tracker.span.near run) = [] := List.filter_eq_nil_iff.mpr h
  have hapart : (open'.filter fun y => !y.tracker.span.near run) = open' :=
    List.filter_eq_self.mpr fun y hy => by simpa using h y hy
  unfold State.takeRun
  simp only [hnear, hapart]

/-- A run that trackers meet is taken by the survivor of their merge. -/
theorem takeRun_of_near {open' : List Live} {s : State} {x : Live} {xs : List Live}
    (h : (open'.filter fun y => y.tracker.span.near run) = x :: xs) :
    State.takeRun tMix readings notes run (open', s) =
      ((open'.filter fun y => !y.tracker.span.near run) ++
        [{ tracker := (s.mergeGroup x xs).1.tracker.take tMix readings run, took := true }],
        (s.mergeGroup x xs).2.syncRecord ((s.mergeGroup x xs).1.tracker.take tMix readings run)) := by
  unfold State.takeRun
  simp only [h]

/-- One tracker alone is its own merge, and its record follows it. -/
theorem mergeGroup_one (x : Live) (s : State) :
    s.mergeGroup x [] = ({ tracker := x.tracker, took := x.took }, s.syncRecord x.tracker) := by
  have he : [x].erase x = [] := by simp
  simp [State.mergeGroup, survivor, State.shuffle, he]

end TakeRun

theorem syncRecord_of_shadow {t : Tracker} (h : ∀ tag, t.kind ≠ .bound tag) (s : State) : s.syncRecord t = s := by
  unfold State.syncRecord
  split
  · next tag hk => exact absurd hk (h tag)
  · rfl

/-- A record as its tracker writes it (R26, R31). -/
def Record.follows (t : Tracker) (r : Record) : Record :=
  { r with span := t.span, peak := t.peak, classes := t.classes, flags := { r.flags with continued := r.flags.continued || t.continued } }

theorem syncRecord_of_bound {t : Tracker} {tag : Nat} (h : t.kind = .bound tag) (s : State) :
    s.syncRecord t = s.modRecord tag (Record.follows t) := by
  unfold State.syncRecord
  rw [h]
  rfl

theorem find_syncRecord {t : Tracker} {tag : Nat} {s : State} {r : Record} (h : t.kind = .bound tag) (hr : s.find tag = some r) :
    (s.syncRecord t).find tag = some (r.follows t) := by
  rw [syncRecord_of_bound h]
  exact find_modRecord_same (f := Record.follows t) (fun _ => rfl) hr

theorem Tracker.with_kind {x : Tracker} {kind : TrackerKind} (h : x.kind = kind) : { x with kind := kind } = x := by
  rw [← h]

/-- What `openedFor` answers is a tracker that takes the run from its very start (R28, R37). -/
theorem openedFor_kind (tMix : Nat) (readings : List Reading) (notes : List Span) (run : Span) (here : W32) :
    (openedFor tMix readings notes run here).kind = .shadow true := by
  unfold openedFor
  rw [take_rest]

/-- The eviction of the head and the opening behind it leave the head in no need, with what follows (R137, R139, R140). -/
theorem evicted_opened_follows {s : State} {head : Nat} {r : Record} (x : Tracker) (hactive : ∃ k : Fin 3, s.rcp.slots[k].state = .active)
    (hr : s.find head = some r) :
    head ∉ ((s.retire r).opened x).ecs.need ∧ s.NeedFollows ((s.retire r).opened x) head := by
  obtain rfl := tag_of_find hr
  have hlost := retire_slotLost r s
  obtain ⟨k, hk⟩ := hactive
  have hsame : (s.retire r).SameDemand ((s.retire r).opened x) :=
    (opened_within x (s.retire r)).sameDemand (by decide) (by decide) (by decide) (by decide)
      (opened_activeParams x ⟨k, (hlost.active k).1.mpr hk⟩)
  refine ⟨?_, (retire_follows r s).of_sameDemand hsame⟩
  rw [hsame.1, mem_need_retire]
  exact fun h => h.2 rfl

/-- A tracker that opens: bound to the record that FTAB opens while a table slot is free, or by eviction, and else a shadow that counts
(R28, R42). -/
theorem openTracker_spec (tMix : Nat) (readings : List Reading) (notes : List Span) (run : Span) {s : State}
    (hactive : ∃ k : Fin 3, s.rcp.slots[k].state = .active) (hfull : s.tab.records.length ≤ 256) (hlo : 1 ≤ s.tab.tagCounter)
    (hhi : s.tab.tagCounter ≤ 65535) :
    let x := openedFor tMix readings notes run s.here
    ∃ kind t, s.openTracker tMix readings notes run = ({ tracker := { x with kind := kind }, took := true }, t) ∧
      (s.tab.records.length < 256 → ∃ tag, kind = .bound tag ∧ s.Opens t x tag ∧ Within [.tab, .slots] s t) ∧
      (∀ (head : Nat) (later : List Nat) (r : Record), s.tab.records.length = 256 → s.tab.queue = head :: later → s.find head = some r →
        ∃ tag, kind = .bound tag ∧ (s.retire r).Opens t x tag ∧ t = (s.retire r).opened x) ∧
      (s.tab.records.length = 256 → s.tab.queue = [] → kind = .shadow true ∧ t = s.latch .tableFull) := by
  intro x
  rcases Nat.lt_or_ge s.tab.records.length 256 with hroom | hge
  · exact ⟨_, _, openTracker_of_some tMix readings notes run (openRecord_of_room x hroom),
      fun _ => ⟨_, rfl, opened_opens x hactive hfull hlo hhi, opened_within x s⟩, fun _ _ _ h256 => absurd h256 (by omega),
      fun h256 => absurd h256 (by omega)⟩
  · have h256 : s.tab.records.length = 256 := Nat.le_antisymm hfull hge
    have hx : { x with kind := .shadow true } = x := Tracker.with_kind (openedFor_kind tMix readings notes run s.here)
    rcases hq : s.tab.queue with _ | ⟨head, later⟩
    · refine ⟨.shadow true, s.latch .tableFull, (openTracker_of_none tMix readings notes run (openRecord_of_full x h256 hq)).trans ?_,
        fun hroom => absurd hroom (by omega), fun _ _ _ _ hc => absurd hc (by simp), fun _ _ => ⟨rfl, rfl⟩⟩
      rw [hx]
    · rcases hr : s.find head with _ | r
      · refine ⟨.shadow true, s.latch .tableFull, (openTracker_of_none tMix readings notes run (openRecord_of_dead x h256 hq hr)).trans ?_,
          fun hroom => absurd hroom (by omega), fun head' _ r' _ hc hr' => ?_, fun _ hc => absurd hc (by simp)⟩
        · rw [hx]
        · obtain ⟨rfl, rfl⟩ := List.cons.inj hc
          exact absurd (hr.symm.trans hr') (by simp)
      · refine ⟨_, _, openTracker_of_some tMix readings notes run (openRecord_of_head x h256 hq hr),
          fun hroom => absurd hroom (by omega), fun head' _ r' _ hc hr' => ?_, fun _ hc => absurd hc (by simp)⟩
        obtain ⟨rfl, rfl⟩ := List.cons.inj hc
        obtain rfl := Option.some.inj (hr.symm.trans hr')
        obtain ⟨k, hk⟩ := hactive
        have hlen := length_records_retire hr
        have hcounter : (s.retire r).tab.tagCounter = s.tab.tagCounter := by
          rw [retire_tab]
          rfl
        exact ⟨_, rfl, opened_opens x ⟨k, ((retire_slotLost r s).active k).1.mpr hk⟩ (by omega) (by rwa [hcounter]) (by rwa [hcounter]),
          rfl⟩

/-- A run that one tracker meets is taken by it, and its record follows. -/
theorem takeRun_of_one (tMix : Nat) (readings : List Reading) (notes : List Span) (run : Span) {before behind : List Live} {y : Live}
    (s : State) (hy : y.tracker.span.near run = true) (hothers : ∀ x ∈ before ++ behind, ¬ x.tracker.span.near run = true) :
    State.takeRun tMix readings notes run (before ++ y :: behind, s) =
      (before ++ behind ++ [{ tracker := y.tracker.take tMix readings run, took := true }],
        (s.syncRecord y.tracker).syncRecord (y.tracker.take tMix readings run)) := by
  have hb : ∀ x ∈ before, ¬ x.tracker.span.near run = true := fun x hx => hothers x (List.mem_append_left _ hx)
  have ha : ∀ x ∈ behind, ¬ x.tracker.span.near run = true := fun x hx => hothers x (List.mem_append_right _ hx)
  have hnear : ((before ++ y :: behind).filter fun x => x.tracker.span.near run) = [y] := by
    rw [List.filter_append, List.filter_cons_of_pos (p := fun x : Live => x.tracker.span.near run) hy, List.filter_eq_nil_iff.mpr hb,
      List.filter_eq_nil_iff.mpr ha]
    rfl
  have hapart : ((before ++ y :: behind).filter fun x => !x.tracker.span.near run) = before ++ behind := by
    rw [List.filter_append, List.filter_cons_of_neg (p := fun x : Live => !x.tracker.span.near run) (by simp [hy]),
      List.filter_eq_self.mpr fun x hx => by simpa using hb x hx, List.filter_eq_self.mpr fun x hx => by simpa using ha x hx]
  rw [takeRun_of_near tMix readings notes run hnear, hapart, mergeGroup_one]

/-- A record that follows its tracker and then the tracker with a run taken follows the latter. -/
theorem follows_take (tMix : Nat) (readings : List Reading) (run : Span) (x : Tracker) (r : Record) :
    (r.follows x).follows (x.take tMix readings run) = r.follows (x.take tMix readings run) := by
  have hc : (x.take tMix readings run).continued = x.continued := by rw [take_rest]
  simp [Record.follows, hc]

theorem take_kind (tMix : Nat) (readings : List Reading) (run : Span) (x : Tracker) : (x.take tMix readings run).kind = x.kind := by
  rw [take_rest]

/-- Settles O10: the runs by `mem_runsFrom`, the samples by `take_eq`, and a run by the number of trackers that it meets. -/
theorem runsOpenTrackersOrAreTaken : Obligations.RunsOpenTrackersOrAreTaken := by
  refine ⟨fun actives => ?_, fun tMix readings run x hle hlast => ?_, ?_⟩
  · have hl : ∀ j, actives.getD j false = (fun i => actives.getD i false) (0 + j) := fun j => by simp
    have hs : RunGoesOn (fun i => actives.getD i false) 0 none := fun k hk => absurd hk (Nat.succ_ne_zero k)
    refine ⟨runsFrom_apart actives 0 none hl hs, fun run => (mem_runsFrom actives 0 none hl hs run).trans ?_⟩
    exact and_iff_left (Nat.zero_le _)
  · intro y sampled seen
    refine ⟨take_rest tMix readings run x, rfl, rfl, fun hsmall => ?_, fun r i hr hx hall hbefore => ?_,
      has_take tMix readings run x .ferrous, has_take tMix readings run x .nonferrous, has_take tMix readings run x .stainless⟩
    · refine peak_samples_of_le tMix _ x fun r hr => ?_
      obtain ⟨i, hi⟩ := mem_runReadings.mp hr
      exact hsmall r i hi
    · obtain ⟨hlo, hhi, hget⟩ := hr
      obtain ⟨before, behind, hsplit, hfirst⟩ := runReadings_split hlo hhi hget
      show ((runReadings readings run).foldl (Tracker.sample tMix) x).peak = _
      rw [hsplit]
      refine peak_samples_of_max tMix hx (fun q hq => ?_) fun q hq => ?_
      · obtain ⟨j, hjlo, hji, hj⟩ := hfirst q hq
        exact hbefore q j ⟨hjlo, by omega, hj⟩ hji
      · obtain ⟨j, hj⟩ := mem_runReadings.mp (hsplit ▸ List.mem_append_right before (List.mem_cons_of_mem r hq))
        exact hall q j hj
  · intro tMix readings notes run open' s hactive hnodup hfull hlo hhi meets result
    have hactive : ∃ k : Fin 3, s.rcp.slots[k].state = .active := hactive.imp fun k hk => hk.1
    refine ⟨fun hapart => ?_, fun before behind y hopen hy hothers => ?_⟩
    · obtain ⟨kind, t, hopens, hroom, hhead, hnone⟩ := openTracker_spec tMix readings notes run hactive hfull hlo hhi
      refine ⟨_, t, (takeRun_of_apart tMix readings notes run fun y hy h => hapart y hy ((near_iff run).mp h)).trans (by rw [hopens]),
        ⟨notes.any fun n => n.near run, ?_, ?_⟩, hroom, fun head later r h256 hq hr => ?_, hnone⟩
      · simp only [List.any_eq_true, near_iff, meets]
      · exact Tracker.with_kind (openedFor_kind tMix readings notes run s.here)
      · obtain ⟨tag, hkind, hopened, rfl⟩ := hhead head later r h256 hq hr
        obtain ⟨hneed, hfollows⟩ := evicted_opened_follows (openedFor tMix readings notes run s.here) hactive hr
        exact ⟨tag, s.retire r, hkind, ⟨retire_tab r s, retire_slotLost r s⟩, hopened,
          (retire_within s r).seq (opened_within _ _) (by decide) (by decide), hneed, hfollows⟩
    · subst hopen
      have htake := takeRun_of_one tMix readings notes run s ((near_iff run).mpr hy)
        fun x hx h => hothers x hx ((near_iff run).mp h)
      refine ⟨_, htake, fun hshadow => ?_, fun tag r hkind hr => ⟨?_, ?_⟩⟩
      · rw [syncRecord_of_shadow hshadow, syncRecord_of_shadow (by simpa only [take_kind] using hshadow)]
      · rw [find_syncRecord ((take_kind _ _ _ _).trans hkind) (find_syncRecord hkind hr), follows_take]
        rfl
      · exact (syncRecord_within _ s).trans (syncRecord_within _ _)

end Sys2Proof.Machine

/-! ## The end of a scan (R32 to R36, R45, R74, R139) -/

namespace Sys2Proof.Machine

/-! ### Trackers in order of their first coils -/

theorem insertLive_perm (x : Live) : ∀ xs : List Live, (insertLive x xs).Perm (x :: xs)
  | [] => .refl _
  | y :: ys => by
    unfold insertLive
    split
    · exact ((insertLive_perm x ys).cons y).trans (.swap x y ys)
    · exact .refl _

theorem sortLive_perm : ∀ xs : List Live, (sortLive xs).Perm xs
  | [] => .refl _
  | x :: xs => (insertLive_perm x (sortLive xs)).trans ((sortLive_perm xs).cons x)

/-- One tracker's first coil is at most another's. -/
abbrev Live.FirstLe (a b : Live) : Prop := a.tracker.span.first ≤ b.tracker.span.first

theorem insertLive_sorted (x : Live) : ∀ xs : List Live, xs.Pairwise Live.FirstLe → (insertLive x xs).Pairwise Live.FirstLe
  | [], _ => List.pairwise_singleton _ x
  | y :: ys, h => by
    obtain ⟨hy, hys⟩ := List.pairwise_cons.mp h
    unfold insertLive
    split
    · next hle =>
      refine List.pairwise_cons.mpr ⟨fun z hz => ?_, insertLive_sorted x ys hys⟩
      rcases List.mem_cons.mp ((insertLive_perm x ys).mem_iff.mp hz) with rfl | hz
      · exact hle
      · exact hy z hz
    · next hle =>
      refine List.pairwise_cons.mpr ⟨fun z hz => ?_, h⟩
      rcases List.mem_cons.mp hz with rfl | hz
      · exact (Nat.lt_of_not_le hle).le
      · exact (Nat.lt_of_not_le hle).le.trans (hy z hz)

theorem sortLive_sorted : ∀ xs : List Live, (sortLive xs).Pairwise Live.FirstLe
  | [] => .nil
  | x :: xs => insertLive_sorted x (sortLive xs) (sortLive_sorted xs)

theorem insertLive_map {f : Live → Live} (hf : ∀ x, (f x).tracker.span = x.tracker.span) (x : Live) : ∀ xs : List Live,
    insertLive (f x) (xs.map f) = (insertLive x xs).map f
  | [] => rfl
  | y :: ys => by
    simp only [List.map_cons, insertLive, hf, insertLive_map hf x ys]
    split <;> rfl

/-- What keeps the spans keeps the order. -/
theorem sortLive_map {f : Live → Live} (hf : ∀ x, (f x).tracker.span = x.tracker.span) : ∀ xs : List Live,
    sortLive (xs.map f) = (sortLive xs).map f
  | [] => rfl
  | x :: xs => by
    simp only [List.map_cons, sortLive, sortLive_map hf xs, insertLive_map hf]

theorem age_span (here : W32) (x : Live) : (x.age here).tracker.span = x.tracker.span := by
  unfold Live.age
  split <;> rfl

/-! ### The closing tests -/

/-- The gap count of a tracker at the end of a scan (R32). -/
def Live.gapAfter (x : Live) : Nat := if x.took then 0 else x.tracker.gap + 1

/-- The position at which a tracker was last seen, once a scan at `here` has ended (R32). -/
def Live.seenAfter (here : W32) (x : Live) : W32 := if x.took then here else x.tracker.lastSeen

theorem age_tracker (here : W32) (x : Live) :
    (x.age here).tracker = { x.tracker with gap := x.gapAfter, lastSeen := x.seenAfter here } := by
  unfold Live.age Live.gapAfter Live.seenAfter
  split <;> rfl

/-- A tracker ends at a scan where it has reached GAP_SCANS or L_MAX, as overlength where it has also taken a run (R33, R34, R35). -/
theorem ending_age {gapScans : Nat} (hg : 1 ≤ gapScans) (here : W32) (lMax : Nat) (x : Live) :
    (x.age here).ending here gapScans lMax =
      if gapScans ≤ x.gapAfter ∨ lMax ≤ (here - x.tracker.f + 4).toNat then
        some (x.seenAfter here, x.took && decide (lMax ≤ (here - x.tracker.f + 4).toNat))
      else none := by
  have ht : (x.age here).took = x.took := rfl
  unfold Live.ending
  rw [age_tracker, ht]
  dsimp only
  generalize (here - x.tracker.f + 4).toNat = length
  by_cases hgap : gapScans ≤ x.gapAfter
  · have htook : x.took = false := by
      by_contra hc
      simp only [Live.gapAfter, Bool.eq_true_of_not_eq_false hc, if_true] at hgap
      omega
    simp [hgap, htook]
  · by_cases hlong : lMax ≤ length
    · cases htook : x.took <;> simp [hgap, hlong, Live.seenAfter, htook]
    · simp [hgap, hlong]

/-- A tracker that does not end stays open, with its gap count and last-seen position (R32). -/
theorem closeStep_of_open {gapScans lMax : Nat} {x : Live} {s : State} (hg : 1 ≤ gapScans)
    (h : ¬ (gapScans ≤ x.gapAfter ∨ lMax ≤ (s.here - x.tracker.f + 4).toNat)) :
    s.closeStep gapScans lMax (x.age s.here) =
      s.modSeg fun g => { g with trackers := g.trackers ++ [{ x.tracker with gap := x.gapAfter, lastSeen := x.seenAfter s.here }] } := by
  unfold State.closeStep
  rw [ending_age hg, if_neg h, age_tracker]

/-- A tracker that ends closes, and leaves a continuation note where it was overlength (R33, R34, R35). -/
theorem closeStep_of_closes {gapScans lMax : Nat} {x : Live} {s : State} (hg : 1 ≤ gapScans)
    (h : gapScans ≤ x.gapAfter ∨ lMax ≤ (s.here - x.tracker.f + 4).toNat) :
    s.closeStep gapScans lMax (x.age s.here) =
      let isLong := x.took && decide (lMax ≤ (s.here - x.tracker.f + 4).toNat)
      let t := s.closeTracker (x.age s.here).tracker (x.seenAfter s.here) isLong
      if isLong then t.modSeg fun g => { g with notes := g.notes ++ [x.tracker.span] } else t := by
  unfold State.closeStep
  rw [ending_age hg, if_pos h]
  simp only [age_span]

/-! ### The record of a tracker that closes -/

/-- A record as its tracker hands it over (R45). -/
def Record.handedOver (c : Closing) (isLong : Bool) (r : Record) : Record :=
  { r with state := .pending, closing := some c, flags := { r.flags with overlength := r.flags.overlength || isLong } }

theorem closeRecord_of_find {tag : Nat} {r : Record} {s : State} (h : s.find tag = some r) (c : Closing) (isLong : Bool) :
    s.closeRecord tag c isLong =
      ((s.modRecord tag (Record.handedOver c isLong)).sight (r.handedOver c isLong) c).refreshNeed tag := by
  have hfind : (s.modRecord tag (Record.handedOver c isLong)).find tag = some (r.handedOver c isLong) :=
    find_modRecord_same (f := Record.handedOver c isLong) (fun _ => rfl) h
  show (match (s.modRecord tag (Record.handedOver c isLong)).find tag with
    | some r => ((s.modRecord tag (Record.handedOver c isLong)).sight r c).refreshNeed tag
    | none => s.modRecord tag (Record.handedOver c isLong)) = _
  rw [hfind]

/-- A record that its tracker has handed over is in need by its signature (R139). -/
theorem handedOver_needsRotor (c : Closing) (isLong : Bool) (r : Record) : (r.handedOver c isLong).needsRotor = true ↔
    c.signature = .nonferrous ∨ c.signature = .stainless ∨ c.signature = .mixed := by
  show (c.signature == .nonferrous || c.signature == .stainless || c.signature == .mixed) = true ↔ _
  simp [or_assoc]

theorem closeTracker_reach (x : Tracker) (t : W32) (isLong : Bool) (s : State) :
    Within [.tab, .ecs, .clink] s (s.closeTracker x t isLong) := by
  unfold State.closeTracker
  split
  · unfold State.closeRecord
    simp only
    split
    · refine (refreshNeed_within _ _).after (by decide) ((sight_within _ _ _).after (by decide) ?_)
      exact (modRecord_within s _ _).mono (by decide)
    · exact (modRecord_within s _ _).mono (by decide)
  · exact (modTotals_within s _).mono (by decide)
  · exact Within.refl _ s

/-- The signature by the number of classes seen (R33). -/
theorem signature_eq (c : Classes) : c.signature =
    let n := (if c.ferrous then 1 else 0) + (if c.nonferrous then 1 else 0) + (if c.stainless then 1 else 0)
    if n = 0 then .faint else if 1 < n then .mixed
    else if c.ferrous then .ferrous else if c.nonferrous then .nonferrous else .stainless := by
  obtain ⟨ferrous, nonferrous, stainless⟩ := c
  cases ferrous <;> cases nonferrous <;> cases stainless <;> rfl

/-- What a record's hand-over leaves in each block (R45, R74, R139). -/
theorem closeRecord_spec {tag : Nat} {r : Record} {s : State} (h : s.find tag = some r) (c : Closing) (isLong : Bool) :
    let t := s.closeRecord tag c isLong
    t.find tag = some (r.handedOver c isLong) ∧
    (tag ∈ t.ecs.need ↔ c.signature = .nonferrous ∨ c.signature = .stainless ∨ c.signature = .mixed) ∧ s.NeedFollows t tag ∧
    t.tab.totals = s.tab.totals ∧ t.tab.queue = s.tab.queue ∧
    (s.line.sightEn = 1 → s.clink.txQueue.length < 32 → t.clink = s.clink.send (r.sighting c)) ∧
    (s.line.sightEn ≠ 1 ∨ 32 ≤ s.clink.txQueue.length → t.clink = s.clink) := by
  intro t
  let u := (s.modRecord tag (Record.handedOver c isLong)).sight (r.handedOver c isLong) c
  have ht : t = u.refreshNeed tag := closeRecord_of_find h c isLong
  have hsight : Within [.clink] (s.modRecord tag (Record.handedOver c isLong)) u := sight_within _ _ _
  have hrefresh : Within [.ecs] u t := ht ▸ refreshNeed_within u tag
  have htab : u.tab = (s.modRecord tag (Record.handedOver c isLong)).tab := hsight .tab (by decide)
  have hfind : u.find tag = some (r.handedOver c isLong) :=
    (find_of_tab htab tag).trans (find_modRecord_same (f := Record.handedOver c isLong) (fun _ => rfl) h)
  have hsame : s.SameRotor u :=
    ((modRecord_within s tag _).seq hsight (cs := [.tab, .clink]) (by decide) (by decide)).sameRotor (by decide) (by decide) (by decide)
  have hclink : t.clink = u.clink := hrefresh .clink (by decide)
  have htabs : t.tab = u.tab := hrefresh .tab (by decide)
  refine ⟨(find_of_tab htabs tag).trans hfind, ?_, ?_, ?_, ?_, fun hen hroom => ?_, fun hno => ?_⟩
  · rw [ht, mem_refreshNeed hfind, handedOver_needsRotor]
  · rw [ht]
    exact .of_sameRotor hsame (refreshNeed_follows u tag)
  · rw [htabs, htab]
    exact State.modRecord_totals _ _ _
  · rw [htabs, htab]
    exact State.modRecord_queue _ _ _
  · rw [hclink, show u = _ from if_pos ⟨hen, hroom⟩]
    rfl
  · have hc : ¬ (s.line.sightEn = 1 ∧ s.clink.txQueue.length < 32) := by omega
    rw [hclink, show u = _ from if_neg hc]
    rfl

theorem closeTracker_of_quiet {x : Tracker} (h : x.kind = .shadow false) (t : W32) (isLong : Bool) (s : State) :
    s.closeTracker x t isLong = s := by
  unfold State.closeTracker
  rw [h]

theorem closeTracker_of_counting {x : Tracker} (h : x.kind = .shadow true) (t : W32) (isLong : Bool) (s : State) :
    s.closeTracker x t isLong = s.modTotals fun n => { n with untracked := countUp 1 n.untracked } := by
  unfold State.closeTracker
  rw [h]

theorem closeTracker_of_bound {x : Tracker} {tag : Nat} (h : x.kind = .bound tag) (t : W32) (isLong : Bool) (s : State) :
    s.closeTracker x t isLong = s.closeRecord tag { t := t, length := (t - x.f + 4).toNat, signature := x.classes.signature } isLong := by
  unfold State.closeTracker
  rw [h]

/-- Settles O12: the trackers in order of their first coils, each put to the closing tests, and what a close hands over. -/
theorem trackersCloseAtTheEndOfAScan : Obligations.TrackersCloseAtTheEndOfAScan := by
  refine ⟨fun p readings s => ?_, ?_⟩
  · intro opened m
    refine ⟨sortLive m.1, sortLive_perm m.1, sortLive_sorted m.1, ?_⟩
    show (sortLive (m.1.map (Live.age s.here))).foldl (State.closeStep p.gapScans s.line.lMax) _ = _
    rw [sortLive_map (age_span s.here), List.foldl_map]
    rfl
  · intro gapScans lMax x s hg t k gap seen long closes overlong tail n signature
    let isLong := x.took && decide long
    let u := s.closeTracker (x.age s.here).tracker tail isLong
    have hlong : isLong = decide overlong := by simp [isLong, overlong]
    have hkind : (x.age s.here).tracker.kind = k.kind := by rw [age_tracker]
    have ht : closes → t = if isLong then u.modSeg fun g => { g with notes := g.notes ++ [k.span] } else u := closeStep_of_closes hg
    have hseg : u.seg = s.seg := closeTracker_reach _ _ _ s .seg (by decide)
    have hframe : closes → Within [.seg] u t := fun hc => by
      rw [ht hc]
      exact Within.ite (modSeg_within u _) (Within.refl _ u)
    have hrest : closes → t = { u with seg := t.seg } := fun hc => by
      rw [ht hc]
      split <;> rfl
    refine ⟨closeStep_of_open hg, fun hc => ⟨?_, fun ho => ?_, fun ho => ?_⟩, fun hc hk => ?_, fun hc hk => ?_, fun tag r hc hk hr _ => ?_⟩
    · rw [ht hc, ← hseg]
      split <;> rfl
    · rw [ht hc, if_pos (by simpa [hlong] using ho), State.modSeg_seg, hseg]
    · rw [ht hc, if_neg (by simpa [hlong] using ho), hseg]
    · have hu : u = s := closeTracker_of_quiet (hkind.trans hk) _ _ s
      rw [hrest hc, hu]
    · have hu : u = _ := closeTracker_of_counting (hkind.trans hk) _ _ s
      rw [hrest hc, hu]
      simp only [countUp]
      rfl
    · have hu : u = s.closeRecord tag { t := tail, length := (tail - k.f + 4).toNat, signature := signature } isLong := by
        refine (closeTracker_of_bound (hkind.trans hk) _ _ s).trans ?_
        rw [age_tracker, signature_eq]
      obtain ⟨hfind, hneed, hfollows, htotals, hqueue, hsent, hunsent⟩ :=
        closeRecord_spec hr { t := tail, length := (tail - k.f + 4).toNat, signature := signature } isLong
      rw [← hu] at hfind hneed hfollows htotals hqueue hsent hunsent
      have htab : t.tab = u.tab := hframe hc .tab (by decide)
      have hecs : t.ecs = u.ecs := hframe hc .ecs (by decide)
      have hclink : t.clink = u.clink := hframe hc .clink (by decide)
      refine ⟨?_, ?_, hfollows.of_sameDemand ?_, ?_, ?_, ?_, ?_, ?_⟩
      · rw [find_of_tab htab, hfind, hlong]
        rfl
      · rw [hecs]
        exact hneed
      · exact (hframe hc).sameDemand (by decide) (by decide) (by decide) (by decide) (activeParams_congr (hframe hc .slots (by decide)))
      · exact (closeTracker_reach _ _ _ s).seq (hframe hc) (by decide) (by decide)
      · rw [htab, htotals]
      · rw [htab, hqueue]
      · intro hen hroom
        rw [hclink, hsent hen hroom, ← tag_of_find hr]
        show _ = LinkState.send _ s.clink
        unfold Record.sighting
        cases signature <;> rfl
      · intro hno
        rw [hclink, hunsent hno]

end Sys2Proof.Machine

/-! ## The merges of a scan (R29, R30, R31, R57) -/

namespace Sys2Proof.Machine

/-! ### What the survivor takes -/

/-- A tracker once it has taken what each of a list of losers brings (R31). -/
def mergeAll (best : Live) (losers : List Live) : Tracker := losers.foldl (fun t y => t.merge y.tracker) best.tracker

theorem mergeAll_cons (b y : Live) (ys : List Live) :
    mergeAll b (y :: ys) = mergeAll { b with tracker := b.tracker.merge y.tracker } ys := rfl

/-- One of the values that the trackers of a group have, and in the relation `le` to the value of each of them. -/
def Selects {β : Type} (le : β → β → Prop) (v : Tracker → β) (g : List Live) (m : β) : Prop :=
  (∃ y ∈ g, m = v y.tracker) ∧ ∀ y ∈ g, le m (v y.tracker)

theorem Selects.perm {β : Type} {le : β → β → Prop} {v : Tracker → β} {g h : List Live} {m : β} (hm : Selects le v g m) (hp : g.Perm h) :
    Selects le v h m := by
  obtain ⟨⟨y, hy, hv⟩, hall⟩ := hm
  exact ⟨⟨y, hp.mem_iff.mp hy, hv⟩, fun z hz => hall z (hp.mem_iff.mpr hz)⟩

theorem Selects.le_iff {v : Tracker → Nat} {g : List Live} {m : Nat} (h : Selects (· ≤ ·) v g m) (c : Nat) :
    (∃ y ∈ g, v y.tracker ≤ c) ↔ m ≤ c := by
  obtain ⟨⟨z, hz, hm⟩, hall⟩ := h
  exact ⟨fun ⟨y, hy, hc⟩ => (hall y hy).trans hc, fun hc => ⟨z, hz, hm ▸ hc⟩⟩

theorem Selects.ge_iff {v : Tracker → Nat} {g : List Live} {m : Nat} (h : Selects (· ≥ ·) v g m) (c : Nat) :
    (∃ y ∈ g, c ≤ v y.tracker) ↔ c ≤ m := by
  obtain ⟨⟨z, hz, hm⟩, hall⟩ := h
  exact ⟨fun ⟨y, hy, hc⟩ => hc.trans (hall y hy), fun hc => ⟨z, hz, hm ▸ hc⟩⟩

/-- Where a merge of two takes one of their two values, in the relation to both, a merge of any number selects. -/
theorem mergeAll_selects {β : Type} {le : β → β → Prop} (hrefl : ∀ a, le a a) (htrans : ∀ {a b c}, le a b → le b c → le a c)
    {v : Tracker → β} {P : β → Prop} (hmerge : ∀ a b : Tracker, P (v a) → P (v b) →
      (v (a.merge b) = v a ∨ v (a.merge b) = v b) ∧ le (v (a.merge b)) (v a) ∧ le (v (a.merge b)) (v b)) (losers : List Live) :
    ∀ best : Live, (∀ y ∈ best :: losers, P (v y.tracker)) → Selects le v (best :: losers) (v (mergeAll best losers)) := by
  induction losers with
  | nil =>
    refine fun best _ => ⟨⟨best, List.mem_cons_self, rfl⟩, fun y hy => ?_⟩
    rw [List.mem_singleton.mp hy]
    exact hrefl _
  | cons y ys ih =>
    intro best hP
    have hbest := hP best List.mem_cons_self
    have hy := hP y (by simp)
    obtain ⟨hone, hle, hle'⟩ := hmerge best.tracker y.tracker hbest hy
    obtain ⟨⟨z, hz, hv⟩, hall⟩ := ih { best with tracker := best.tracker.merge y.tracker } (by
      intro z hz
      rcases List.mem_cons.mp hz with rfl | hz
      · rcases hone with h | h <;> simp only [h] <;> assumption
      · exact hP z (by simp [hz]))
    have hfirst := hall _ List.mem_cons_self
    rw [mergeAll_cons]
    refine ⟨?_, fun x hx => ?_⟩
    · rcases List.mem_cons.mp hz with rfl | hz
      · exact hone.elim (fun h => ⟨best, List.mem_cons_self, hv.trans h⟩) fun h => ⟨y, by simp, hv.trans h⟩
      · exact ⟨z, by simp [hz], hv⟩
    · rcases List.mem_cons.mp hx with rfl | hx
      · exact htrans hfirst hle
      · rcases List.mem_cons.mp hx with rfl | hx
        · exact htrans hfirst hle'
        · exact hall x (List.mem_cons_of_mem _ hx)

section MergeAll
variable (best : Live) (losers : List Live)

theorem mergeAll_first : Selects (· ≤ ·) (·.span.first) (best :: losers) (mergeAll best losers).span.first := by
  refine mergeAll_selects (P := fun _ => True) Nat.le_refl Nat.le_trans (fun a b _ _ => ?_) losers best fun _ _ => trivial
  show (min a.span.first b.span.first = _ ∨ min a.span.first b.span.first = _) ∧ min _ _ ≤ _ ∧ min _ _ ≤ _
  omega

theorem mergeAll_last : Selects (· ≥ ·) (·.span.last) (best :: losers) (mergeAll best losers).span.last := by
  refine mergeAll_selects (le := (· ≥ ·)) (P := fun _ => True) le_refl ge_trans (fun a b _ _ => ?_) losers best fun _ _ => trivial
  show (max a.span.last b.span.last = _ ∨ max a.span.last b.span.last = _) ∧ max _ _ ≥ _ ∧ max _ _ ≥ _
  omega

theorem mergeAll_gap : Selects (· ≤ ·) (·.gap) (best :: losers) (mergeAll best losers).gap := by
  refine mergeAll_selects (P := fun _ => True) Nat.le_refl Nat.le_trans (fun a b _ _ => ?_) losers best fun _ _ => trivial
  show (min a.gap b.gap = _ ∨ min a.gap b.gap = _) ∧ min _ _ ≤ _ ∧ min _ _ ≤ _
  omega

theorem mergeAll_peak_selects : Selects (fun p q => q.excess ≤ p.excess) (·.peak) (best :: losers) (mergeAll best losers).peak := by
  refine mergeAll_selects (le := fun p q : Peak => q.excess ≤ p.excess) (P := fun _ => True) (fun _ => Nat.le_refl _)
    (fun h g => Nat.le_trans g h) (fun a b _ _ => ?_) losers best fun _ _ => trivial
  simp only [Tracker.merge]
  split
  · next h => exact ⟨.inr rfl, h.le, Nat.le_refl _⟩
  · next h => exact ⟨.inl rfl, Nat.le_refl _, Nat.le_of_not_lt h⟩

end MergeAll

/-- The survivor's own peak stays where no other is larger (R31). -/
theorem mergeAll_peak_own (losers : List Live) : ∀ best : Live,
    (mergeAll best losers).peak = best.tracker.peak ∨ best.tracker.peak.excess < (mergeAll best losers).peak.excess := by
  induction losers with
  | nil => exact fun _ => .inl rfl
  | cons y ys ih =>
    intro best
    have hrest := ih { best with tracker := best.tracker.merge y.tracker }
    rw [← mergeAll_cons] at hrest
    simp only [Tracker.merge] at hrest
    split at hrest
    · next h => exact .inr (hrest.elim (fun he => he ▸ h) h.trans)
    · exact hrest

/-- What a merge of two has where either has it, a merge of any number has where any has it. -/
theorem mergeAll_any {p : Tracker → Bool} (h : ∀ a b : Tracker, p (a.merge b) = (p a || p b)) (losers : List Live) : ∀ best : Live,
    p (mergeAll best losers) = true ↔ ∃ y ∈ best :: losers, p y.tracker = true := by
  induction losers with
  | nil => exact fun best => by simp [mergeAll]
  | cons y ys ih =>
    intro best
    rw [mergeAll_cons, ih]
    simp [h, or_assoc]

theorem mergeAll_f (losers : List Live) : ∀ best : Live, (mergeAll best losers).f = best.tracker.f := by
  induction losers with
  | nil => exact fun _ => rfl
  | cons y ys ih => exact fun best => (mergeAll_cons best y ys).symm ▸ ih _

/-- A bound survivor keeps its tag (R31). -/
theorem mergeAll_bound {tag : Nat} (losers : List Live) : ∀ best : Live, best.tracker.kind = .bound tag →
    (mergeAll best losers).kind = .bound tag := by
  induction losers with
  | nil => exact fun _ h => h
  | cons y ys ih =>
    intro best h
    refine (mergeAll_cons best y ys).symm ▸ ih _ ?_
    show best.tracker.kind.merged y.tracker.kind = _
    rw [h]
    rfl

theorem TrackerKind.merged_shadow (c : Bool) (k : TrackerKind) :
    ∃ counts, (TrackerKind.shadow c).merged k = .shadow counts ∧ (counts = true ↔ c = true ∨ k = .shadow true) := by
  cases k with
  | bound tag => exact ⟨c, rfl, by simp⟩
  | shadow d => exact ⟨c || d, rfl, by simp⟩

/-- A shadow that survives counts where any of the group does (R31). -/
theorem mergeAll_shadow (losers : List Live) : ∀ (best : Live) (c : Bool), best.tracker.kind = .shadow c →
    ∃ counts, (mergeAll best losers).kind = .shadow counts ∧ (counts = true ↔ ∃ y ∈ best :: losers, y.tracker.kind = .shadow true) := by
  induction losers with
  | nil => exact fun best c h => ⟨c, h, by simp [h]⟩
  | cons y ys ih =>
    intro best c h
    obtain ⟨d, hd, hcounts⟩ := TrackerKind.merged_shadow c y.tracker.kind
    have hkind : (best.tracker.merge y.tracker).kind = .shadow d := by
      rw [← hd, ← h]
      rfl
    obtain ⟨counts, hm, hall⟩ := ih { best with tracker := best.tracker.merge y.tracker } d hkind
    refine ⟨counts, hm, hall.trans ?_⟩
    simp [hkind, hcounts, h, or_assoc]

/-! ### Fronts and positions already reached -/

section Ages
variable {here a b : W32}

/-- Of two positions already reached, the earlier is the one farther behind. -/
theorem earlier_iff_age (ha : (here - a).toNat < 2 ^ 31) (hb : (here - b).toNat < 2 ^ 31) :
    earlier a b = true ↔ (here - b).toNat < (here - a).toNat := by
  have hreached : reached b a = true ↔ (here - b).toNat ≤ (here - a).toNat := by
    simp only [reached, decide_eq_true_eq]
    bv_omega
  simp only [earlier, Bool.and_eq_true, bne_iff_ne, ne_eq, hreached]
  bv_omega

end Ages

/-- The survivor's last seen is the latest of the group's (R31). -/
theorem mergeAll_lastSeen (here : W32) (best : Live) (losers : List Live)
    (h : ∀ y ∈ best :: losers, (here - y.tracker.lastSeen).toNat < 2 ^ 31) :
    Selects (fun a b => (here - a).toNat ≤ (here - b).toNat) (·.lastSeen) (best :: losers) (mergeAll best losers).lastSeen := by
  refine mergeAll_selects (le := fun a b => (here - a).toNat ≤ (here - b).toNat) (P := fun w => (here - w).toNat < 2 ^ 31)
    (fun _ => Nat.le_refl _) (fun h g => Nat.le_trans h g) (fun a b ha hb => ?_) losers best h
  simp only [Tracker.merge, earlier_iff_age ha hb]
  split
  · next hlt => exact ⟨.inr rfl, hlt.le, Nat.le_refl _⟩
  · next hlt => exact ⟨.inl rfl, Nat.le_refl _, Nat.le_of_not_lt hlt⟩

/-! ### The survivor (R30) -/

/-- The table of R30 as seen from the present position: a bound tracker before a shadow, then the older front, then the lower first coil. -/
def Live.Before (here : W32) (a b : Live) : Prop :=
  (a.tracker.isBound = true ∧ b.tracker.isBound = false) ∨
    (a.tracker.isBound = b.tracker.isBound ∧ ((here - b.tracker.f).toNat < (here - a.tracker.f).toNat ∨
      (b.tracker.f = a.tracker.f ∧ a.tracker.span.first < b.tracker.span.first)))

/-- Two trackers that the table of R30 tells apart. -/
def Live.Apart (a b : Live) : Prop :=
  a.tracker.isBound = b.tracker.isBound → a.tracker.f = b.tracker.f → a.tracker.span.first ≠ b.tracker.span.first

section Survivor
variable {here : W32} {a b c : Live}

theorem Live.Before.trans (h : a.Before here b) (g : b.Before here c) : a.Before here c := by
  rcases h with ⟨ha, hb⟩ | ⟨hab, h⟩ <;> rcases g with ⟨hb', hc⟩ | ⟨hbc, g⟩
  · exact .inl ⟨ha, hc⟩
  · exact .inl ⟨ha, hbc ▸ hb⟩
  · exact .inl ⟨hab.trans hb', hc⟩
  · refine .inr ⟨hab.trans hbc, ?_⟩
    rcases h with h | ⟨hf, h⟩ <;> rcases g with g | ⟨gf, g⟩
    · exact .inl (g.trans h)
    · exact .inl (gf ▸ h)
    · exact .inl (hf ▸ g)
    · exact .inr ⟨gf.trans hf, h.trans g⟩

theorem Live.Apart.before_or (h : a.Apart b) : a.Before here b ∨ b.Before here a := by
  by_cases hbound : a.tracker.isBound = b.tracker.isBound
  · rcases Nat.lt_trichotomy (here - a.tracker.f).toNat (here - b.tracker.f).toNat with hlt | heq | hlt
    · exact .inr (.inr ⟨hbound.symm, .inl hlt⟩)
    · have hf : a.tracker.f = b.tracker.f := by bv_omega
      rcases Nat.lt_or_gt_of_ne (h hbound hf) with hlt | hlt
      · exact .inl (.inr ⟨hbound, .inr ⟨hf.symm, hlt⟩⟩)
      · exact .inr (.inr ⟨hbound.symm, .inr ⟨hf, hlt⟩⟩)
    · exact .inl (.inr ⟨hbound, .inl hlt⟩)
  · unfold Live.Before
    cases ha : a.tracker.isBound <;> cases hb : b.tracker.isBound <;> simp_all

/-- The rule of survivors is the table of R30 where the fronts are already reached. -/
theorem survives_iff (ha : (here - a.tracker.f).toNat < 2 ^ 31) (hb : (here - b.tracker.f).toNat < 2 ^ 31) :
    a.tracker.survives b.tracker = true ↔ a.Before here b := by
  unfold Tracker.survives Live.Before
  by_cases hbound : a.tracker.isBound = b.tracker.isBound
  · by_cases hf : a.tracker.f = b.tracker.f
    · simp [hbound, hf]
    · simp [hbound, hf, Ne.symm hf, earlier_iff_age ha hb]
  · cases ha' : a.tracker.isBound <;> cases hb' : b.tracker.isBound <;> simp_all

/-- The survivor is the one of the group that the table chooses over each of the others. -/
theorem survivor_spec (xs : List Live) : ∀ x : Live, (∀ y ∈ x :: xs, (here - y.tracker.f).toNat < 2 ^ 31) →
    (x :: xs).Pairwise Live.Apart → ∀ y ∈ x :: xs, y = survivor x xs ∨ (survivor x xs).Before here y := by
  induction xs with
  | nil => exact fun x _ _ y hy => .inl (List.mem_singleton.mp hy)
  | cons y ys ih =>
    intro x hages hapart
    have hsurvives := survives_iff (hages y (by simp)) (hages x List.mem_cons_self)
    obtain ⟨hx, hys⟩ := List.pairwise_cons.mp hapart
    have hstep : survivor x (y :: ys) = survivor (if y.tracker.survives x.tracker then y else x) ys := rfl
    rw [hstep]
    split
    · next h =>
      have hrest := ih y (fun z hz => hages z (List.mem_cons_of_mem x hz)) hys
      have hbefore : (survivor y ys).Before here x := by
        rcases hrest y List.mem_cons_self with he | hb
        · exact he ▸ hsurvives.mp h
        · exact hb.trans (hsurvives.mp h)
      exact List.forall_mem_cons.mpr ⟨.inr hbefore, hrest⟩
    · next h =>
      have hrest := ih x (fun z hz => hages z (by
        rcases List.mem_cons.mp hz with rfl | hz
        · exact List.mem_cons_self
        · simp [hz])) (hapart.sublist ((List.sublist_cons_self y ys).cons_cons x))
      obtain ⟨hxs, hys'⟩ := List.forall_mem_cons.mp hrest
      have hxy : x.Before here y := (hx y List.mem_cons_self).before_or.resolve_right fun hc => h (hsurvives.mpr hc)
      refine List.forall_mem_cons.mpr ⟨hxs, List.forall_mem_cons.mpr ⟨.inr ?_, hys'⟩⟩
      exact hxs.elim (fun he => he ▸ hxy) fun hb => hb.trans hxy

end Survivor

theorem survivor_mem (xs : List Live) : ∀ x : Live, survivor x xs ∈ x :: xs := by
  induction xs with
  | nil => exact fun x => List.mem_cons_self
  | cons y ys ih =>
    intro x
    have hstep : survivor x (y :: ys) = survivor (if y.tracker.survives x.tracker then y else x) ys := rfl
    rw [hstep]
    split
    · exact List.mem_cons_of_mem x (ih y)
    · rcases List.mem_cons.mp (ih x) with he | hm
      · rw [he]
        exact List.mem_cons_self
      · exact List.mem_cons_of_mem x (List.mem_cons_of_mem y hm)

/-! ### The need set as records are retired (R139, R140) -/

/-- Between `s` and `t` the need set has lost tags and gained none, with what follows from it. -/
def State.NeedShrinks (s t : State) : Prop :=
  t.now = s.now ∧ t.line = s.line ∧ (∀ x ∈ t.ecs.need, x ∈ s.ecs.need) ∧ s.NeedMoves t ∧ s.NeedStays t

theorem State.NeedShrinks.refl (s : State) : s.NeedShrinks s :=
  ⟨rfl, rfl, fun _ h => h, (State.NeedFollows.refl s 0).2⟩

theorem State.NeedShrinks.of_sameDemand {s t u : State} (h : s.NeedShrinks t) (hnow : u.now = t.now) (hu : t.SameDemand u) :
    s.NeedShrinks u := by
  obtain ⟨hnow', hline', hsub, hmoves, hstays⟩ := h
  refine ⟨hnow.trans hnow', hu.2.1.trans hline', hu.1 ▸ hsub, hmoves.of_sameDemand hu, ?_⟩
  unfold State.NeedStays State.RotorKept
  rw [hu.1]
  exact hstays

/-- An evaluation that starts from a rotor left as it was may start from before. -/
theorem State.DemandEvaluated.of_kept {s t u : State} (hnow : t.now = s.now) (hkind : t.ecs.demandKind = s.ecs.demandKind)
    (hvalue : t.ecs.demandValue = s.ecs.demandValue) (hkept : s.RotorKept t) (h : t.DemandEvaluated u) : s.DemandEvaluated u := by
  obtain ⟨hrotor, hspin, hstall⟩ := hkept
  simpa only [State.DemandEvaluated, State.RotorKept, State.RotorEvaluated, hnow, hkind, hvalue, hrotor, hspin, hstall] using h

/-- One more tag leaves the need set; where the set was empty already, nothing that R137 reads changes. -/
theorem State.NeedShrinks.drop {s t u : State} {tag : Nat} (h : s.NeedShrinks t) (hnow : u.now = t.now) (hline : u.line = t.line)
    (hfollows : t.NeedFollows u tag) (htag : tag ∉ u.ecs.need) (hempty : t.ecs.need = [] → t.SameDemand u) : s.NeedShrinks u := by
  by_cases ht : t.ecs.need = []
  · exact h.of_sameDemand hnow (hempty ht)
  · obtain ⟨hnow', hline', hsub, hmoves, hstays⟩ := h
    obtain ⟨hmem, htmoves, htstays⟩ := hfollows
    have hsubset : ∀ x ∈ u.ecs.need, x ∈ t.ecs.need := fun x hx => (hmem x fun hc => htag (hc ▸ hx)).mp hx
    have hs : s.ecs.need ≠ [] := by
      obtain ⟨x, hx⟩ := List.exists_mem_of_ne_nil _ ht
      exact List.ne_nil_of_mem (hsub x hx)
    obtain ⟨heconomy, hkind, hvalue, hrotor, hspin, hstall⟩ := hstays (iff_of_false hs ht)
    refine ⟨hnow.trans hnow', hline.trans hline', fun x hx => hsub x (hsubset x hx), ⟨fun h0 => absurd h0 hs, fun _ hu => ?_⟩, fun hsame => ?_⟩
    · obtain ⟨hu', heval⟩ := htmoves.2 ht hu
      rw [hnow', hline'] at hu'
      exact ⟨hu', heval.of_kept hnow' hkind hvalue ⟨hrotor, hspin, hstall⟩⟩
    · have hu : u.ecs.need ≠ [] := fun hu => hs (hsame.mpr hu)
      obtain ⟨heconomy', hkind', hvalue', hrotor', hspin', hstall'⟩ := htstays (iff_of_false ht hu)
      exact ⟨heconomy'.trans heconomy, hkind'.trans hkind, hvalue'.trans hvalue, hrotor'.trans hrotor, hspin'.trans hspin,
        hstall'.trans hstall⟩

/-- A retirement shrinks the need set. -/
theorem State.NeedShrinks.retire {s t : State} (h : s.NeedShrinks t) (hactive : ∃ k : Fin 3, t.rcp.slots[k].state = .active) (r : Record) :
    s.NeedShrinks (t.retire r) := by
  have hw := retire_within t r
  refine h.drop (congrArg Pos.time (hw .pos (by decide))) (hw .line (by decide)) (retire_follows r t) (fun hc => (mem_need_retire.mp hc).2 rfl)
    fun hnil => ⟨?_, hw .line (by decide), (retire_slotLost r t).activeParams hactive, hw.avail (by decide) .e, (hw .estop (by decide)).1⟩
  rw [retire_dropsNeed, dropNeed_of_not_mem]
  · rfl
  · show r.tag ∉ t.ecs.need
    simp [hnil]

/-! ### The losers' records (R31, R57) -/

/-- A loser's record is retired where the loser is bound to a live one. -/
theorem retireLoser_cases (x : Tracker) (s : State) :
    (s.retireLoser x = s ∧ ∀ tag, x.kind = .bound tag → s.find tag = none) ∨
      ∃ tag r, x.kind = .bound tag ∧ s.find tag = some r ∧ s.retireLoser x = s.retire r := by
  unfold State.retireLoser
  split
  · next tag hk =>
    rcases hr : s.find tag with _ | r
    · refine .inl ⟨?_, fun tag' h => ?_⟩
      · unfold State.retireTag
        rw [hr]
      · obtain rfl := TrackerKind.bound.inj (hk.symm.trans h)
        exact hr
    · exact .inr ⟨tag, r, hk, hr, retireTag_of_find hr⟩
  · next hk => exact .inl ⟨rfl, fun tag h => absurd (hk.symm.trans h) (by simp)⟩

/-- What the retirement of one loser's record leaves. -/
theorem retireLoser_spec (x : Tracker) (s : State) :
    let t := s.retireLoser x
    t.tab.totals = s.tab.totals ∧ t.tab.tagCounter = s.tab.tagCounter ∧
    (∀ tag, tag ∈ t.tab.tags ↔ tag ∈ s.tab.tags ∧ x.kind ≠ .bound tag) ∧
    (∀ tag, x.kind ≠ .bound tag → t.find tag = s.find tag) ∧
    (∀ tag, tag ∈ t.ecs.need → tag ∈ s.ecs.need) ∧
    (∀ tag, x.kind = .bound tag → (∃ r, s.find tag = some r) → tag ∉ t.ecs.need) ∧
    (∀ k : Fin 3, t.rcp.slots[k].state = .active ↔ s.rcp.slots[k].state = .active) := by
  intro t
  rcases retireLoser_cases x s with ⟨ht, hdead⟩ | ⟨tag, r, hk, hr, ht⟩
  · rw [show t = s from ht]
    refine ⟨rfl, rfl, fun tag => ⟨fun h => ⟨h, fun hk => ?_⟩, And.left⟩, fun _ _ => rfl, fun _ h => h, fun tag hk ⟨r, hr⟩ => ?_, fun _ => Iff.rfl⟩
    · exact find_eq_none_iff.mp (hdead tag hk) h
    · exact absurd ((hdead tag hk).symm.trans hr) (by simp)
  · rw [show t = s.retire r from ht, hk]
    obtain rfl := tag_of_find hr
    have htab := retire_tab r s
    have hne : ∀ tag, TrackerKind.bound r.tag ≠ .bound tag ↔ tag ≠ r.tag := fun tag => by simp [eq_comm]
    refine ⟨by rw [htab]; rfl, by rw [htab]; rfl, fun tag => ?_, fun tag h => find_without htab ((hne tag).mp h),
      fun tag h => (mem_need_retire.mp h).1, fun tag h _ hc => ?_, fun k => ((retire_slotLost r s).active k).1⟩
    · rw [htab, mem_tags_without, hne]
    · exact (mem_need_retire.mp hc).2 (TrackerKind.bound.inj h).symm

/-- The retirements of the losers' records, one after the other. -/
def State.retireLosers (losers : List Live) (s : State) : State := losers.foldl (fun t y => t.retireLoser y.tracker) s

/-- The retirements touch the losers' records alone, and count nowhere (R31, R57). -/
theorem retireLosers_tab (losers : List Live) : ∀ s : State,
    let t := s.retireLosers losers
    t.tab.totals = s.tab.totals ∧ t.tab.tagCounter = s.tab.tagCounter ∧
    (∀ tag, tag ∈ t.tab.tags ↔ tag ∈ s.tab.tags ∧ ∀ y ∈ losers, y.tracker.kind ≠ .bound tag) ∧
    ∀ tag, (∀ y ∈ losers, y.tracker.kind ≠ .bound tag) → t.find tag = s.find tag := by
  induction losers with
  | nil => exact fun s => ⟨rfl, rfl, fun tag => by simp [State.retireLosers], fun _ _ => rfl⟩
  | cons y ys ih =>
    intro s
    obtain ⟨htotals, hcounter, htags, hfind, -⟩ := retireLoser_spec y.tracker s
    obtain ⟨htotals', hcounter', htags', hfind'⟩ := ih (s.retireLoser y.tracker)
    refine ⟨htotals'.trans htotals, hcounter'.trans hcounter, fun tag => (htags' tag).trans ?_, fun tag h => ?_⟩
    · rw [htags tag, List.forall_mem_cons, and_assoc]
    · obtain ⟨hy, hys⟩ := List.forall_mem_cons.mp h
      exact (hfind' tag hys).trans (hfind tag hy)

/-- The retirements shrink the need set, and leave an ACTIVE slot ACTIVE. -/
theorem retireLosers_needShrinks (losers : List Live) : ∀ s t : State, s.NeedShrinks t → (∃ k : Fin 3, t.rcp.slots[k].state = .active) →
    s.NeedShrinks (t.retireLosers losers) ∧ ∃ k : Fin 3, (t.retireLosers losers).rcp.slots[k].state = .active := by
  induction losers with
  | nil => exact fun _ _ h hactive => ⟨h, hactive⟩
  | cons y ys ih =>
    intro s t h hactive
    obtain ⟨-, -, -, -, -, -, hslots⟩ := retireLoser_spec y.tracker t
    refine ih s (t.retireLoser y.tracker) ?_ (hactive.imp fun k hk => (hslots k).mpr hk)
    rcases retireLoser_cases y.tracker t with ⟨ht, -⟩ | ⟨tag, r, -, -, ht⟩
    · rwa [ht]
    · exact ht ▸ h.retire hactive r

theorem mem_need_retireLosers {x : Nat} (losers : List Live) : ∀ s : State, x ∈ (s.retireLosers losers).ecs.need → x ∈ s.ecs.need := by
  induction losers with
  | nil => exact fun _ h => h
  | cons y ys ih =>
    intro s h
    obtain ⟨-, -, -, -, hneed, -⟩ := retireLoser_spec y.tracker s
    exact hneed x (ih _ h)

/-- No loser's tag stays in the need set (R139). -/
theorem not_mem_need_retireLosers {tag : Nat} (losers : List Live) : ∀ s : State,
    (losers.Pairwise fun a b => ∀ x, a.tracker.kind = .bound x → b.tracker.kind ≠ .bound x) → (∃ r, s.find tag = some r) →
    (∃ y ∈ losers, y.tracker.kind = .bound tag) → tag ∉ (s.retireLosers losers).ecs.need := by
  induction losers with
  | nil => exact fun _ _ _ h => absurd h (by simp)
  | cons y ys ih =>
    intro s hdistinct hlive ⟨z, hz, hk⟩
    obtain ⟨hy, hys⟩ := List.pairwise_cons.mp hdistinct
    obtain ⟨-, -, -, hfind, -, hgone, -⟩ := retireLoser_spec y.tracker s
    rcases List.mem_cons.mp hz with rfl | hz
    · exact fun hc => hgone tag hk hlive (mem_need_retireLosers ys _ hc)
    · refine ih _ hys (hlive.imp fun r hr => ?_) ⟨z, hz, hk⟩
      rw [hfind tag fun hc => hy z hz tag hc hk, hr]

theorem retireLosers_within (losers : List Live) (s : State) : Within [.tab, .slots, .ecs] s (s.retireLosers losers) :=
  foldl_within _ (fun t (y : Live) => retireLoser_within y.tracker t) losers s

/-! ### A merge -/

/-- A merge is the survivor's, of the others in some order, each retired before the survivor's record follows. -/
theorem mergeGroup_eq (x : Live) (xs : List Live) (s : State) :
    ∃ (losers : List Live) (n : Nat), (survivor x xs :: losers).Perm (x :: xs) ∧
      (s.mergeGroup x xs).1 = { tracker := mergeAll (survivor x xs) losers, took := (x :: xs).any (·.took) } ∧
      (s.mergeGroup x xs).2 = (State.retireLosers losers { s with draws := n }).syncRecord
        (mergeAll (survivor x xs) losers) := by
  obtain ⟨hperm, hdraws⟩ := State.shuffle_spec xs.length ((x :: xs).erase (survivor x xs)) s
  refine ⟨_, (s.shuffle xs.length ((x :: xs).erase (survivor x xs))).2.draws,
    (hperm.cons _).trans (List.perm_cons_erase (survivor_mem xs x)).symm, rfl, ?_⟩
  rw [← hdraws]
  rfl

/-- What a tracker writes of its record leaves the table's tags and counts (R31). -/
theorem syncRecord_tab (x : Tracker) (s : State) :
    (s.syncRecord x).tab.totals = s.tab.totals ∧ (s.syncRecord x).tab.tagCounter = s.tab.tagCounter ∧
      (s.syncRecord x).tab.tags = s.tab.tags := by
  unfold State.syncRecord
  split
  · exact ⟨rfl, rfl, tags_modRecord (f := Record.follows x) (fun _ => rfl) s⟩
  · exact ⟨rfl, rfl, rfl⟩

/-- What a merge leaves in each block: the losers' records retired and counted nowhere, and the survivor's following it (R31, R57). -/
theorem merged_state (best : Live) (losers : List Live) (m : Tracker) (n : Nat) (s : State)
    (hdistinct : (best :: losers).Pairwise fun a b => ∀ x, a.tracker.kind = .bound x → b.tracker.kind ≠ .bound x) :
    let t := (State.retireLosers losers { s with draws := n }).syncRecord m
    Within [.tab, .slots, .ecs, .draws] s t ∧ t.tab.totals = s.tab.totals ∧ t.tab.tagCounter = s.tab.tagCounter ∧
    (∀ tag, tag ∈ t.tab.tags ↔ tag ∈ s.tab.tags ∧ ∀ y ∈ losers, y.tracker.kind ≠ .bound tag) ∧
    ((∃ k : Fin 3, s.rcp.slots[k].state = .active) → s.NeedMoves t) ∧
    (∀ y ∈ losers, ∀ tag, y.tracker.kind = .bound tag → (∃ r, s.find tag = some r) → tag ∉ t.ecs.need) ∧
    (∀ y tag r, losers = [y] → y.tracker.kind = .bound tag → s.find tag = some r → s.SlotLost t r.slot) ∧
    ∀ tag r, best.tracker.kind = .bound tag → m.kind = .bound tag → s.find tag = some r → t.find tag = some (r.follows m) := by
  intro t
  obtain ⟨hbest, hlosers⟩ := List.pairwise_cons.mp hdistinct
  let d : State := { s with draws := n }
  have hd : Within [.draws] s d := draws_within s n
  obtain ⟨htotals, hcounter, htags, hfind⟩ := retireLosers_tab losers d
  obtain ⟨htotals', hcounter', htags'⟩ := syncRecord_tab m (d.retireLosers losers)
  have hsync : Within [.tab] (d.retireLosers losers) t := syncRecord_within m _
  have hecs : t.ecs = (d.retireLosers losers).ecs := hsync .ecs (by decide)
  refine ⟨?_, htotals'.trans htotals, hcounter'.trans hcounter, fun tag => ?_, fun hactive => ?_, fun y hy tag hk hlive => ?_,
    fun y tag r hone hk hr => ?_, fun tag r hk hm hr => find_syncRecord hm ?_⟩
  · exact (hd.seq (retireLosers_within losers d) (by decide) (by decide)).trans (hsync.mono (by decide))
  · rw [htags']
    exact htags tag
  · obtain ⟨⟨-, -, -, hmoves, -⟩, -⟩ := retireLosers_needShrinks losers d d (.refl d) hactive
    refine State.NeedMoves.of_sameRotor (hd.sameRotor (by decide) (by decide) (by decide)) (hmoves.of_sameDemand ?_)
    exact hsync.sameDemand (by decide) (by decide) (by decide) (by decide) (activeParams_congr (hsync .slots (by decide)))
  · rw [hecs]
    exact not_mem_need_retireLosers losers d hlosers hlive ⟨y, hy, hk⟩
  · subst hone
    have hretire : d.retireLosers [y] = d.retire r := by
      show d.retireLoser y.tracker = _
      unfold State.retireLoser
      rw [hk]
      exact retireTag_of_find hr
    have hlost : d.SlotLost (d.retireLosers [y]) r.slot := hretire ▸ retire_slotLost r d
    exact hlost.congr (hsync.rcp (by decide) (by decide) (by decide))
  · exact (hfind tag fun y hy => hbest y hy tag hk).trans hr

/-! ### Trackers that meet or adjoin (R29) -/

/-- A tracker spans just the coils from the first to the last of a group. -/
def Live.Spans (m : Live) (g : List Live) : Prop :=
  Selects (· ≤ ·) (·.span.first) g m.tracker.span.first ∧ Selects (· ≥ ·) (·.span.last) g m.tracker.span.last

theorem Live.spans_one (x : Live) : x.Spans [x] := ⟨mergeAll_first x [], mergeAll_last x []⟩

theorem mergeGroup_spans (x : Live) (xs : List Live) (s : State) : (s.mergeGroup x xs).1.Spans (x :: xs) := by
  obtain ⟨losers, n, hperm, hm, -⟩ := mergeGroup_eq x xs s
  rw [hm]
  exact ⟨(mergeAll_first _ losers).perm hperm, (mergeAll_last _ losers).perm hperm⟩

/-- The trackers of one group neither meet nor adjoin those of another behind it. -/
def GroupsApart (g h : List Live) : Prop := ∀ y ∈ g, ∀ z ∈ h, y.tracker.span.last + 1 < z.tracker.span.first

theorem Live.Spans.apart {m n : Live} {g h : List Live} (hm : m.Spans g) (hn : n.Spans h) (hgh : GroupsApart g h) :
    m.tracker.span.last + 1 < n.tracker.span.first := by
  obtain ⟨-, ⟨y, hy, hlast⟩, -⟩ := hm
  obtain ⟨⟨⟨z, hz, hfirst⟩, -⟩, -⟩ := hn
  rw [hlast, hfirst]
  exact hgh y hy z hz

theorem stretches_flatten (xs : List Live) : ∀ (cur : List Live) (last : Nat), (stretches cur last xs).flatten = cur ++ xs := by
  induction xs with
  | nil => exact fun cur _ => by simp [stretches]
  | cons x xs ih =>
    intro cur last
    unfold stretches
    split
    · rw [ih, List.append_assoc]
      rfl
    · rw [List.flatten_cons, ih]
      rfl

theorem stretches_ne_nil (xs : List Live) : ∀ (cur : List Live) (last : Nat), cur ≠ [] → ∀ g ∈ stretches cur last xs, g ≠ [] := by
  induction xs with
  | nil => exact fun cur _ h g hg => List.mem_singleton.mp hg ▸ h
  | cons x xs ih =>
    intro cur last h
    unfold stretches
    split
    · exact ih _ _ (by simp)
    · exact List.forall_mem_cons.mpr ⟨h, ih _ _ (by simp)⟩

/-- Of trackers in order of their first coils, the stretches neither meet nor adjoin one another. -/
theorem stretches_apart (xs : List Live) : ∀ (cur : List Live) (last : Nat), (∀ y ∈ cur, y.tracker.span.last ≤ last) →
    xs.Pairwise Live.FirstLe → (stretches cur last xs).Pairwise GroupsApart := by
  induction xs with
  | nil => exact fun cur _ _ _ => List.pairwise_singleton _ cur
  | cons x xs ih =>
    intro cur last hcur hsorted
    obtain ⟨hx, hxs⟩ := List.pairwise_cons.mp hsorted
    unfold stretches
    split
    · refine ih _ _ (fun y hy => ?_) hxs
      rcases List.mem_append.mp hy with hy | hy
      · exact (hcur y hy).trans (le_max_left _ _)
      · exact List.mem_singleton.mp hy ▸ le_max_right _ _
    · next hgap =>
      refine List.pairwise_cons.mpr ⟨fun h hh y hy z hz => ?_, ih _ _ (fun y hy => List.mem_singleton.mp hy ▸ Nat.le_refl _) hxs⟩
      have hz : z ∈ x :: xs := by
        have := List.mem_flatten_of_mem hh hz
        rwa [stretches_flatten] at this
      have hxz : x.tracker.span.first ≤ z.tracker.span.first := by
        rcases List.mem_cons.mp hz with rfl | hz
        · exact Nat.le_refl _
        · exact hx z hz
      have := hcur y hy
      omega

/-- A fold that adds for each group a tracker that spans it. -/
theorem foldl_spans {f : List Live × State → List Live → List Live × State}
    (hf : ∀ acc g, g ≠ [] → ∃ m : Live, m.Spans g ∧ (f acc g).1 = acc.1 ++ [m]) (gs : List (List Live)) :
    ∀ acc, (∀ g ∈ gs, g ≠ []) → ∃ ms, (gs.foldl f acc).1 = acc.1 ++ ms ∧ List.Forall₂ Live.Spans ms gs := by
  induction gs with
  | nil => exact fun acc _ => ⟨[], (List.append_nil _).symm, .nil⟩
  | cons g gs ih =>
    intro acc hne
    obtain ⟨hg, hgs⟩ := List.forall_mem_cons.mp hne
    obtain ⟨m, hm, hstep⟩ := hf acc g hg
    obtain ⟨ms, hms, hall⟩ := ih (f acc g) hgs
    exact ⟨m :: ms, by rw [List.foldl_cons, hms, hstep, List.append_assoc]; rfl, .cons hm hall⟩

theorem forall₂_foldl_spans {f : List Live × State → List Live → List Live × State}
    (hf : ∀ acc g, g ≠ [] → ∃ m : Live, m.Spans g ∧ (f acc g).1 = acc.1 ++ [m]) (gs : List (List Live)) (hne : ∀ g ∈ gs, g ≠ []) (s : State) :
    List.Forall₂ Live.Spans (gs.foldl f ([], s)).1 gs := by
  obtain ⟨ms, hms, hall⟩ := foldl_spans hf gs ([], s) hne
  rw [hms]
  exact hall

section Spanned
variable {ms : List Live} {gs : List (List Live)}

theorem spanned_of_mem {m : Live} (h : List.Forall₂ Live.Spans ms gs) (hm : m ∈ ms) : ∃ g ∈ gs, m.Spans g := by
  induction h with
  | nil => exact absurd hm List.not_mem_nil
  | cons hag _ ih =>
    rcases List.mem_cons.mp hm with rfl | hm
    · exact ⟨_, List.mem_cons_self, hag⟩
    · exact (ih hm).imp fun _ => And.imp_left (List.mem_cons_of_mem _)

theorem spans_of_mem {g : List Live} (h : List.Forall₂ Live.Spans ms gs) (hg : g ∈ gs) : ∃ m ∈ ms, m.Spans g := by
  induction h with
  | nil => exact absurd hg List.not_mem_nil
  | cons hag _ ih =>
    rcases List.mem_cons.mp hg with rfl | hg
    · exact ⟨_, List.mem_cons_self, hag⟩
    · exact (ih hg).imp fun _ => And.imp_left (List.mem_cons_of_mem _)

theorem spans_pairwise (h : List.Forall₂ Live.Spans ms gs) (hapart : gs.Pairwise GroupsApart) :
    ms.Pairwise fun a b => a.tracker.span.last + 1 < b.tracker.span.first := by
  induction h with
  | nil => exact .nil
  | cons hag hrest ih =>
    obtain ⟨hg, hgs⟩ := List.pairwise_cons.mp hapart
    refine List.pairwise_cons.mpr ⟨fun b hb => ?_, ih hgs⟩
    obtain ⟨k, hk, hbk⟩ := spanned_of_mem hrest hb
    exact hag.apart hbk (hg k hk)

end Spanned

/-- What is left once those that meet or adjoin have merged spans the groups that a sorted list of trackers falls into. -/
theorem mergeAdjoining_groups (w : List Live × State) :
    ∃ gs : List (List Live), gs.Pairwise GroupsApart ∧ gs.flatten.Perm w.1 ∧ List.Forall₂ Live.Spans (State.mergeAdjoining w).1 gs := by
  have hperm := sortLive_perm w.1
  have hsorted := sortLive_sorted w.1
  unfold State.mergeAdjoining
  split
  · next hnil =>
    have hw : w.1 = [] := (hnil ▸ hperm).symm.eq_nil
    exact ⟨[], .nil, by simp [hw], by simp [hw]⟩
  · next x xs hcons =>
    rw [hcons] at hperm hsorted
    refine ⟨stretches [x] x.tracker.span.last xs, ?_, by rw [stretches_flatten]; exact hperm, ?_⟩
    · exact stretches_apart xs _ _ (fun y hy => List.mem_singleton.mp hy ▸ Nat.le_refl _) (List.pairwise_cons.mp hsorted).2
    · refine forall₂_foldl_spans (fun acc g hg => ?_) _ (stretches_ne_nil xs _ _ (by simp)) w.2
      split
      · exact absurd rfl hg
      · next y => exact ⟨y, y.spans_one, rfl⟩
      · next y ys _ => exact ⟨_, mergeGroup_spans y ys acc.2, rfl⟩

/-- Trackers that are bound to two tags are told apart either way round. -/
theorem pairwise_distinct_perm {g h : List Live} (hp : g.Perm h)
    (hd : h.Pairwise fun a b => ∀ x, a.tracker.kind = .bound x → b.tracker.kind ≠ .bound x) :
    g.Pairwise fun a b => ∀ x, a.tracker.kind = .bound x → b.tracker.kind ≠ .bound x :=
  hd.perm hp.symm fun h x hb ha => h x ha hb

theorem kind_of_not_isBound {x : Tracker} (h : x.isBound = false) : ∃ c, x.kind = .shadow c := by
  unfold Tracker.isBound at h
  split at h
  · exact absurd h (by simp)
  · next c hk => exact ⟨c, hk⟩

/-- Settles O11: the survivor by `survivor_spec`, what it takes by the folds of `mergeAll`, the records by `merged_state`, and the trackers
left by the groups of `mergeAdjoining_groups`. -/
theorem metTrackersMergeIntoTheSurvivor : Obligations.MetTrackersMergeIntoTheSurvivor := by
  refine ⟨fun x xs s hages hapart hdistinct hlive => ?_, fun tMix readings notes run open' s x xs h => ?_, fun w _ => ⟨?_, fun c hc => ?_⟩⟩
  · intro age m t
    obtain ⟨losers, n, hperm, hm, ht⟩ := mergeGroup_eq x xs s
    let best := survivor x xs
    have hm' : m = mergeAll best losers := congrArg Live.tracker hm
    have hmem : ∀ y, y ∈ best :: losers ↔ y ∈ x :: xs := fun y => hperm.mem_iff
    have hd := pairwise_distinct_perm hperm hdistinct
    obtain ⟨hbest, -⟩ := List.pairwise_cons.mp hd
    have hexists : ∀ p : Live → Prop, (∃ y ∈ best :: losers, p y) ↔ ∃ y ∈ x :: xs, p y := fun p => by simp only [hmem]
    have hlosers : ∀ tag, (∀ y ∈ losers, y.tracker.kind ≠ .bound tag) ↔
        ∀ y ∈ x :: xs, y.tracker.kind = .bound tag → best.tracker.kind = .bound tag := fun tag => by
      refine ⟨fun h y hy hk => ?_, fun h y hy hk => ?_⟩
      · rcases List.mem_cons.mp ((hmem y).mpr hy) with rfl | hy
        · exact hk
        · exact absurd hk (h y hy)
      · exact hbest y hy tag (h y ((hmem y).mp (List.mem_cons_of_mem _ hy)) hk) hk
    obtain ⟨hframe, htotals, hcounter, htags, hmoves, hgone, hlost, hfind⟩ := merged_state best losers m n s hd
    have ht' : t = (State.retireLosers losers { s with draws := n }).syncRecord m := hm' ▸ ht
    rw [← ht'] at hframe htotals hcounter htags hmoves hgone hlost hfind
    have hsurvives : ∀ y ∈ x :: xs, y = best ∨ best.Before s.here y :=
      survivor_spec xs x (fun y hy => (hages y hy).1.trans (by decide)) hapart
    obtain ⟨hseen, hlatest⟩ := (mergeAll_lastSeen s.here best losers fun y hy => (hages y ((hmem y).mp hy)).2.trans (by decide)).perm hperm
    obtain ⟨hgap, hleast⟩ := (mergeAll_gap best losers).perm hperm
    obtain ⟨hpeak, hlargest⟩ := (mergeAll_peak_selects best losers).perm hperm
    have hany : ∀ p : Tracker → Bool, (∀ a b : Tracker, p (a.merge b) = (p a || p b)) → (p m = true ↔ ∃ y ∈ x :: xs, p y.tracker = true) :=
      fun p hp => hm' ▸ (mergeAll_any hp losers best).trans (hexists _)
    rw [← hm'] at hseen hlatest hgap hleast hpeak hlargest
    refine ⟨congrArg Live.took hm, best, survivor_mem xs x, hsurvives, hm' ▸ mergeAll_f losers best,
      fun tag hk => hm' ▸ mergeAll_bound losers best hk, fun hb => ?_,
      fun c => hm' ▸ ((mergeAll_first best losers).perm hperm).le_iff c, fun c => hm' ▸ ((mergeAll_last best losers).perm hperm).ge_iff c,
      hseen, hlatest, hgap, hleast, hpeak, hlargest, fun he => ?_, hany (·.classes.ferrous) fun _ _ => rfl,
      hany (·.classes.nonferrous) fun _ _ => rfl, hany (·.classes.stainless) fun _ _ => rfl, hany (·.continued) fun _ _ => rfl,
      hframe, htotals, hcounter, fun tag => (htags tag).trans (and_congr_right' (hlosers tag)), hmoves, fun y hy tag hk hb => ?_,
      fun y r hp ⟨tag, hk, hr⟩ => hlost y tag r (List.perm_singleton.mp ((hperm.trans hp).cons_inv)) hk hr,
      fun tag r hk hr => hfind tag r hk (hm' ▸ mergeAll_bound losers best hk) hr⟩
    · obtain ⟨c, hc⟩ := kind_of_not_isBound hb
      obtain ⟨counts, hk, hcounts⟩ := mergeAll_shadow losers best c hc
      exact ⟨counts, hm' ▸ hk, hcounts.trans (hexists _)⟩
    · refine (hm' ▸ mergeAll_peak_own losers best).resolve_right fun hlt => ?_
      exact absurd he hlt.ne'
    · have hy' : y ∈ losers := by
        rcases List.mem_cons.mp ((hmem y).mpr hy) with rfl | hy
        · exact absurd hk hb
        · exact hy
      exact hgone y hy' tag hk (hlive y hy tag hk)
  · exact congrArg Prod.fst (takeRun_of_near tMix readings notes run h)
  · obtain ⟨gs, hgs, -, hspans⟩ := mergeAdjoining_groups w
    exact spans_pairwise hspans hgs
  · obtain ⟨gs, -, hperm, hspans⟩ := mergeAdjoining_groups w
    obtain ⟨y, hy, hfirst, hlast⟩ := hc
    obtain ⟨g, hg, hyg⟩ := List.mem_flatten.mp (hperm.mem_iff.mpr hy)
    obtain ⟨m, hm, ⟨-, hfirst'⟩, -, hlast'⟩ := spans_of_mem hspans hg
    exact ⟨m, hm, (hfirst' y hyg).trans hfirst, hlast.trans (hlast' y hyg)⟩

end Sys2Proof.Machine

/-! ## PURGE (R38, R59, R101, R117, R134, R137, R140, R149, R161, R171) -/

namespace Sys2Proof.Machine

/-- PURGE leaves the ACTIVE slot's parameters, where a slot is ACTIVE. -/
theorem purged_activeParams {s : State} (h : ∃ k : Fin 3, s.rcp.slots[k].state = .active) : s.purged.activeParams = s.activeParams := by
  have hslots : ∀ k : Fin 3, s.purged.rcp.slots[k] = s.rcp.slots[k].purge s.line.rotorMaxRpm := fun k => Vector.getElem_mapIdx k.isLt
  refine activeParams_of_active h (fun k => ?_) fun k hk => ?_
  · rw [hslots]
    exact purge_state_active_iff _ _
  · rw [hslots, purge_of_active _ hk]

/-- A segment at PURGE falls if its drive is on, and lets go of all that it holds (R134). -/
theorem purged_segments (s : State) (k : Fin 8) : s.purged.mag.segments[k] =
    if s.mag.segments[k].driven then
      { s.mag.segments[k] with
        power := .falling, completion := some (after s.now (s.line.magFallMs * 1000)), holding := [], watches := [] }
    else { s.mag.segments[k] with holding := [], watches := [] } := by
  have hr : s.purged.mag.segments = s.mag.segments.mapIdx fun _ g =>
    ({ g with holding := [], watches := [] } : Segment).fallIfFree s.now s.line.magFallMs := rfl
  have hfall : ∀ g : Segment, ({ g with holding := [], watches := [] } : Segment).fallIfFree s.now s.line.magFallMs =
      if g.driven then ({ g with holding := [], watches := [] } : Segment).fall s.now s.line.magFallMs
      else { g with holding := [], watches := [] } := fun g => if_congr (and_iff_right rfl) rfl rfl
  rw [hr]
  exact (Vector.getElem_mapIdx k.isLt).trans (hfall _)

/-- A need set that PURGE empties starts the economy timer, and ECS evaluates the demand (R140, R149). -/
theorem purgeNeed_of_needed {s : State} (h : s.ecs.need ≠ []) :
    s.purgeNeed.ecs.economy = some (after s.now (s.line.econHoldMs * 1000)) ∧ s.DemandEvaluated s.purgeNeed := by
  have he : s.purgeNeed = (s.modEcs fun e => { e with need := [] }).startEconomy.evalDemand := if_neg h
  rw [he]
  exact ⟨evalDemand_economy _, State.DemandEvaluated.of_modNeed (evalDemand_evaluated _)⟩

theorem purge_trackers (g : Seg) : g.purge.trackers = g.trackers.map fun x =>
    { x with kind := match x.kind with
        | .bound _ => .shadow false
        | .shadow counts => .shadow counts } := by
  refine List.map_congr_left fun x _ => ?_
  obtain ⟨kind, span, f, lastSeen, gap, peak, classes, continued⟩ := x
  cases kind <;> rfl

/-- Settles O53: PURGE is each block's part, and the demand of R137 where the need set was not empty. -/
theorem purgeEmptiesTheTableAndTheLists : Obligations.PurgeEmptiesTheTableAndTheLists := by
  intro rest s hslots hw
  obtain ⟨⟨k, hk, -⟩, -⟩ := hslots
  obtain ⟨economy, kind, value, rotor, spinUp, stall, he⟩ := purgeNeed_rotorMoves (s.popped .supervisor rest).purged
  have hidle : s.ecs.need = [] → (s.popped .supervisor rest).purged.purgeNeed = (s.popped .supervisor rest).purged := fun h => if_pos h
  have hneeded : s.ecs.need ≠ [] → _ := purgeNeed_of_needed (s := (s.popped .supervisor rest).purged)
  have hparams : (s.popped .supervisor rest).purged.activeParams = s.activeParams :=
    purged_activeParams (s := s.popped .supervisor rest) ⟨k, hk⟩
  refine ⟨(s.popped .supervisor rest).purge, congrArg Host.Outcome.next (takeRequest_of_waits _ hw rfl), ?_⟩
  rw [purge_eq]
  generalize (s.popped .supervisor rest).purged.purgeNeed = t at he hidle hneeded ⊢
  have hready : t.activeParams = s.activeParams ∧ t.avail .e = s.avail .e ∧ t.lsig.estop = s.lsig.estop := he ▸ ⟨hparams, rfl, rfl⟩
  refine ⟨?_, ?_, ⟨?lists, ?pulses⟩, ⟨?_, ?slots⟩, ?_, ?_, ?trackers, ?_, ?_, ?segments, ?flaps, ?_, ?_, ?_, ?_, ?_, ?_, ?idle, ?needed⟩
  case idle =>
    intro h
    rw [hidle h]
    rfl
  case needed =>
    intro h
    obtain ⟨heconomy, hset, heval⟩ := hneeded h
    refine ⟨heconomy, ⟨hset, heval⟩, fun hst hestop => ?_⟩
    obtain ⟨hp, ha, hs⟩ := hready
    obtain ⟨-, hruns, -⟩ := hset
    rw [hp, ha, hs] at hruns
    exact hruns hst hestop (.inr (.inr (by rw [heconomy]; simp)))
  all_goals subst he
  case lists => exact reset_lists
  case pulses => exact fun n => Vector.getElem_mapIdx n.isLt
  case slots => exact fun k => (Vector.getElem_mapIdx k.isLt).trans rfl
  case trackers => exact purge_trackers s.seg
  case segments => exact purged_segments (s.popped .supervisor rest)
  case flaps => exact fun k => Vector.getElem_mapIdx k.isLt
  all_goals rfl

end Sys2Proof.Machine

/-! ## RECORD_CANCEL (R38, R56, R58, R117, R139, R140, R157) -/

namespace Sys2Proof.Machine

theorem mapIdx_eq_map {α β : Type} {n : Nat} (f : α → β) (v : Vector α n) : (v.mapIdx fun _ x => f x) = v.map f := by
  ext i hi
  simp

/-- Every claim of a record leaves every list (R117). -/
theorem withdrawAll_arb (tag : Nat) (s : State) : (s.withdrawAll tag).arb = s.arb.without tag := by
  simp only [State.withdrawAll, State.withdraw, Arb.without, State.modArb_arb, Arb.map, mapIdx_eq_map]

theorem lists_without (a : Arb) (tag : Nat) (st : Station) :
    (a.without tag).lists st = (a.lists st).map fun l => l.filter fun c => c.owner != tag := by
  cases st <;> exact Vector.toList_map

theorem inAction_iff (s : State) (tag : Nat) :
    s.inAction tag = true ↔ (∃ st, s.hasBegun tag st = true) ∨ s.hasOpenPulse tag = true := by
  have hst : (∃ st, s.hasBegun tag st = true) ↔ s.hasBegun tag .m = true ∨ s.hasBegun tag .e = true ∨ s.hasBegun tag .a = true :=
    ⟨fun ⟨st, h⟩ => by cases st <;> simp [h], by rintro (h | h | h) <;> exact ⟨_, h⟩⟩
  rw [hst]
  simp [State.inAction, or_assoc]

/-- What a cancelled record's actions, pulses and tracker give up, before its retirement (R38, R117, R157). -/
def State.released (tag : Nat) (s : State) : State := (((s.withdrawAll tag).closeLanding tag).withdrawPulses tag).shadowTracker tag

theorem cancelRecord_eq (r : Record) (s : State) : s.cancelRecord r =
    ((s.released r.tag).retire r).modTotals fun t => { t with cancelled := countUp 1 t.cancelled } := rfl

theorem released_tab (tag : Nat) (s : State) : (s.released tag).tab = s.tab := by
  simp only [State.released, State.shadowTracker, State.withdrawPulses, State.closeLanding, State.withdrawAll, State.withdraw,
    State.modSeg_tab, State.modPulses_tab, State.modFlaps_tab, State.modArb_tab]

theorem released_sameRotor (tag : Nat) (s : State) : s.SameRotor (s.released tag) := ⟨rfl, rfl, _, rfl⟩

theorem modTotals_tab (f : Totals → Totals) (s : State) : (s.modTotals f).tab = { s.tab with totals := f s.tab.totals } := rfl

/-- A record that is cancelled (R58): what is left in each block that it reaches. -/
theorem cancelRecord_spec (r : Record) (s : State) :
    (s.cancelRecord r).tab = { s.tab.without r.tag with
      totals := { s.tab.totals with cancelled := min 4294967295 (s.tab.totals.cancelled + 1) } } ∧
    s.SlotLost (s.cancelRecord r) r.slot ∧ (s.cancelRecord r).arb = s.arb.without r.tag ∧
    (s.cancelRecord r).jet = (s.withdrawPulses r.tag).jet ∧ (s.cancelRecord r).seg = (s.shadowTracker r.tag).seg ∧
    r.tag ∉ (s.cancelRecord r).ecs.need ∧ s.NeedFollows (s.cancelRecord r) r.tag := by
  have hw := retire_within (s.released r.tag) r
  have htab := (retire_tab r (s.released r.tag)).trans (congrArg (Table.without · r.tag) (released_tab r.tag s))
  have hslot : s.SlotLost _ _ := retire_slotLost r (s.released r.tag)
  have harb := Eq.trans (hw .arb (by decide)) (withdrawAll_arb r.tag s)
  have hneed : r.tag ∉ ((s.released r.tag).retire r).ecs.need := by simp [mem_need_retire]
  have hfollows := State.NeedFollows.of_sameRotor (released_sameRotor r.tag s) (retire_follows r _)
  have hjet := hw .jet (by decide)
  have hseg := hw .seg (by decide)
  rw [cancelRecord_eq]
  generalize (s.released r.tag).retire r = u at htab hslot harb hneed hfollows hjet hseg ⊢
  refine ⟨?_, hslot, harb, hjet, hseg, hneed, hfollows.of_sameDemand ⟨rfl, rfl, rfl, rfl, rfl⟩⟩
  rw [modTotals_tab, htab]
  simp only [countUp, Table.without]

/-- A RECORD_CANCEL that waits is answered with what its serving answers. -/
theorem exec_recordCancel_of_serve {s t : State} {tag : Nat} {rest : List Frame} {status : Status}
    (hw : s.Waits .supervisor 0x2B (le 2 tag) rest) (htag : tag < 65536)
    (h : serveRecordCancel tag (s.popped .supervisor rest) = cancelReply t tag status) :
    exec .recordCancel s = .next (t.replied .supervisor 0x2B status (le 2 tag)) := by
  have hhalf : halfAt (le 2 tag) 0 = tag := by simpa using halfAt_le tag [] htag
  have hserve : ofLength 2 (fun b => serveRecordCancel (halfAt b 0)) (le 2 tag) (s.popped .supervisor rest) = cancelReply t tag status := by
    rw [ofLength_eq _ _ (length_le 2 tag), hhalf, h]
  refine congrArg Host.Outcome.next ((takeRequest_of_waits _ hw rfl).trans ?_)
  rw [hserve]
  rfl

/-- Settles O41: the tests of R58 in order, and the cancellation block by block. -/
theorem cancelRetiresAnUnsettledRecord : Obligations.CancelRetiresAnUnsettledRecord := by
  intro tag rest s htag hw q answer inAction
  have hanswer : ∀ {t : State} {status : Status}, serveRecordCancel tag q = cancelReply t tag status →
      exec .recordCancel s = answer t status := exec_recordCancel_of_serve hw htag
  have hact : q.inAction tag = true ↔ inAction := inAction_iff q tag
  refine ⟨fun h0 => hanswer (if_pos h0), fun h0 hnone => hanswer ?_, fun r h0 hfind => ?_⟩
  · have hq : q.find tag = none := hnone
    unfold serveRecordCancel
    rw [if_neg h0, hq]
  · have hq : q.find tag = some r := hfind
    have hserve : serveRecordCancel tag q =
        if r.state = .settled then cancelReply q tag .tooLate
        else if (r.state = .routed ∨ r.state = .airborne) ∧ q.inAction tag then cancelReply q tag .inAction
        else cancelReply (q.cancelRecord r) tag .ok := by
      unfold serveRecordCancel
      rw [if_neg h0, hq]
    refine ⟨fun hsettled => hanswer (hserve.trans (if_pos hsettled)), fun hstate hin => hanswer (hserve.trans ?_), fun hns hno => ?_⟩
    · rw [if_neg (by rcases hstate with h | h <;> simp [h]), if_pos ⟨hstate, hact.mpr hin⟩]
    · have hok : serveRecordCancel tag q = cancelReply (q.cancelRecord r) tag .ok := by
        rw [hserve, if_neg hns, if_neg fun h => hno h.1 (hact.mp h.2)]
      obtain rfl := tag_of_find hfind
      obtain ⟨htab, hslot, harb, hjet, hseg, hneed, hfollows⟩ := cancelRecord_spec r q
      refine ⟨q.cancelRecord r, hanswer hok, cancelRecord_within q r .slink (by decide), htab, hslot, fun st => ?_, fun n => ?_, ?_, ?_,
        hneed, .of_sameRotor ⟨rfl, rfl, s.ecs.flaps, rfl⟩ hfollows⟩
      · rw [harb]
        exact lists_without s.arb r.tag st
      · rw [hjet]
        exact Vector.getElem_mapIdx n.isLt
      · rw [hseg]
        rfl
      · rw [hseg]
        rfl

end Sys2Proof.Machine
